-- ==== Sys2Proof/Word.lean ====
section
/-! DEFINITION. The word types of the OTP core (spec/00_scope.md R8, R9, R13): bytes, 32-bit transaction words, 64-bit operands. -/

namespace Sys2Proof

/-- A byte is 8 bits (R9). -/
abbrev Byte := BitVec 8

/-- The data width of a register transaction, `XLEN` = 32 (R8). -/
abbrev Word := BitVec 32

/-- The width of COUNTER, NOW and `time_in`, 64 bits (R8). -/
abbrev DWord := BitVec 64

/-- A register index, `IDX_BITS` = 6: one of the 64 word slots (R8, R62). -/
abbrev Idx := BitVec 6

end Sys2Proof
end

