-- ==== Sys2Proof/Syntax.lean ====
section
/-! DEFINITION. The instructions of the OTP core: one constructor per row of spec/opcode_table.json (spec/30_encoding.md R90: "a
register transaction" of format T or "a command word" of format C), the two forms a word reaches the core in, and the
five commands of R95. -/

namespace Sys2Proof

/-- The instructions. Format C rows are command words (the data of a `WR CMD`), format T rows are register transactions.
A read carries no operand ("for a read the field is not used", R91); a write carries its 32-bit `wdata`; a word with a reserved
bit set carries itself whole, since every one of its other bits is free (rows ILLEGAL.RSVD4 to ILLEGAL.RSVD31). -/
inductive Instr where
  /-- `HOTP`, command word 0x00000001 (R179). -/
  | hotp
  /-- `TOTP`, command word 0x00000002 (R205). -/
  | totp
  /-- `LDTIME`, command word 0x00000003 (R208). -/
  | ldtime
  /-- `CLEAR`, command word 0x00000004 (R220). -/
  | clear
  /-- `ILLEGAL.OPC0`, illegal command word 0x00000000 (R222). -/
  | illegalOpc0
  /-- `ILLEGAL.OPC5`, illegal command word 0x00000005 (R222). -/
  | illegalOpc5
  /-- `ILLEGAL.OPC6`, illegal command word 0x00000006 (R222). -/
  | illegalOpc6
  /-- `ILLEGAL.OPC7`, illegal command word 0x00000007 (R222). -/
  | illegalOpc7
  /-- `ILLEGAL.OPC8`, illegal command word 0x00000008 (R222). -/
  | illegalOpc8
  /-- `ILLEGAL.OPC9`, illegal command word 0x00000009 (R222). -/
  | illegalOpc9
  /-- `ILLEGAL.OPC10`, illegal command word 0x0000000a (R222). -/
  | illegalOpc10
  /-- `ILLEGAL.OPC11`, illegal command word 0x0000000b (R222). -/
  | illegalOpc11
  /-- `ILLEGAL.OPC12`, illegal command word 0x0000000c (R222). -/
  | illegalOpc12
  /-- `ILLEGAL.OPC13`, illegal command word 0x0000000d (R222). -/
  | illegalOpc13
  /-- `ILLEGAL.OPC14`, illegal command word 0x0000000e (R222). -/
  | illegalOpc14
  /-- `ILLEGAL.OPC15`, illegal command word 0x0000000f (R222). -/
  | illegalOpc15
  /-- `ILLEGAL.RSVD4`, illegal command word `w` whose lowest set reserved bit is 4 (R222). -/
  | illegalRsvd4 (w : Word)
  /-- `ILLEGAL.RSVD5`, illegal command word `w` whose lowest set reserved bit is 5 (R222). -/
  | illegalRsvd5 (w : Word)
  /-- `ILLEGAL.RSVD6`, illegal command word `w` whose lowest set reserved bit is 6 (R222). -/
  | illegalRsvd6 (w : Word)
  /-- `ILLEGAL.RSVD7`, illegal command word `w` whose lowest set reserved bit is 7 (R222). -/
  | illegalRsvd7 (w : Word)
  /-- `ILLEGAL.RSVD8`, illegal command word `w` whose lowest set reserved bit is 8 (R222). -/
  | illegalRsvd8 (w : Word)
  /-- `ILLEGAL.RSVD9`, illegal command word `w` whose lowest set reserved bit is 9 (R222). -/
  | illegalRsvd9 (w : Word)
  /-- `ILLEGAL.RSVD10`, illegal command word `w` whose lowest set reserved bit is 10 (R222). -/
  | illegalRsvd10 (w : Word)
  /-- `ILLEGAL.RSVD11`, illegal command word `w` whose lowest set reserved bit is 11 (R222). -/
  | illegalRsvd11 (w : Word)
  /-- `ILLEGAL.RSVD12`, illegal command word `w` whose lowest set reserved bit is 12 (R222). -/
  | illegalRsvd12 (w : Word)
  /-- `ILLEGAL.RSVD13`, illegal command word `w` whose lowest set reserved bit is 13 (R222). -/
  | illegalRsvd13 (w : Word)
  /-- `ILLEGAL.RSVD14`, illegal command word `w` whose lowest set reserved bit is 14 (R222). -/
  | illegalRsvd14 (w : Word)
  /-- `ILLEGAL.RSVD15`, illegal command word `w` whose lowest set reserved bit is 15 (R222). -/
  | illegalRsvd15 (w : Word)
  /-- `ILLEGAL.RSVD16`, illegal command word `w` whose lowest set reserved bit is 16 (R222). -/
  | illegalRsvd16 (w : Word)
  /-- `ILLEGAL.RSVD17`, illegal command word `w` whose lowest set reserved bit is 17 (R222). -/
  | illegalRsvd17 (w : Word)
  /-- `ILLEGAL.RSVD18`, illegal command word `w` whose lowest set reserved bit is 18 (R222). -/
  | illegalRsvd18 (w : Word)
  /-- `ILLEGAL.RSVD19`, illegal command word `w` whose lowest set reserved bit is 19 (R222). -/
  | illegalRsvd19 (w : Word)
  /-- `ILLEGAL.RSVD20`, illegal command word `w` whose lowest set reserved bit is 20 (R222). -/
  | illegalRsvd20 (w : Word)
  /-- `ILLEGAL.RSVD21`, illegal command word `w` whose lowest set reserved bit is 21 (R222). -/
  | illegalRsvd21 (w : Word)
  /-- `ILLEGAL.RSVD22`, illegal command word `w` whose lowest set reserved bit is 22 (R222). -/
  | illegalRsvd22 (w : Word)
  /-- `ILLEGAL.RSVD23`, illegal command word `w` whose lowest set reserved bit is 23 (R222). -/
  | illegalRsvd23 (w : Word)
  /-- `ILLEGAL.RSVD24`, illegal command word `w` whose lowest set reserved bit is 24 (R222). -/
  | illegalRsvd24 (w : Word)
  /-- `ILLEGAL.RSVD25`, illegal command word `w` whose lowest set reserved bit is 25 (R222). -/
  | illegalRsvd25 (w : Word)
  /-- `ILLEGAL.RSVD26`, illegal command word `w` whose lowest set reserved bit is 26 (R222). -/
  | illegalRsvd26 (w : Word)
  /-- `ILLEGAL.RSVD27`, illegal command word `w` whose lowest set reserved bit is 27 (R222). -/
  | illegalRsvd27 (w : Word)
  /-- `ILLEGAL.RSVD28`, illegal command word `w` whose lowest set reserved bit is 28 (R222). -/
  | illegalRsvd28 (w : Word)
  /-- `ILLEGAL.RSVD29`, illegal command word `w` whose lowest set reserved bit is 29 (R222). -/
  | illegalRsvd29 (w : Word)
  /-- `ILLEGAL.RSVD30`, illegal command word `w` whose lowest set reserved bit is 30 (R222). -/
  | illegalRsvd30 (w : Word)
  /-- `ILLEGAL.RSVD31`, illegal command word `w` whose lowest set reserved bit is 31 (R222). -/
  | illegalRsvd31 (w : Word)
  /-- `RD CMD`, idx 0 (R126). -/
  | rdCmd
  /-- `RD STATUS`, idx 1 (R128). -/
  | rdStatus
  /-- `RD DIGITS`, idx 2 (R122). -/
  | rdDigits
  /-- `RD WINDOW`, idx 3 (R123). -/
  | rdWindow
  /-- `RD COUNTER_LO`, idx 4 (R124). -/
  | rdCounterLo
  /-- `RD COUNTER_HI`, idx 5 (R124). -/
  | rdCounterHi
  /-- `RD NOW_LO`, idx 6 (R125). -/
  | rdNowLo
  /-- `RD NOW_HI`, idx 7 (R125). -/
  | rdNowHi
  /-- `RD KEY_PUSH`, idx 8 (R127). -/
  | rdKeyPush
  /-- `RD KEY_LEN`, idx 9 (R129). -/
  | rdKeyLen
  /-- `RD CODE_LEN`, idx 10 (R130). -/
  | rdCodeLen
  /-- `RD CODE_VAL`, idx 11 (R130). -/
  | rdCodeVal
  /-- `RD #12`, idx 12 (R132). -/
  | rdSlot12
  /-- `RD #13`, idx 13 (R132). -/
  | rdSlot13
  /-- `RD #14`, idx 14 (R132). -/
  | rdSlot14
  /-- `RD #15`, idx 15 (R132). -/
  | rdSlot15
  /-- `RD CODE0`, idx 16 (R131). -/
  | rdCode0
  /-- `RD CODE1`, idx 17 (R131). -/
  | rdCode1
  /-- `RD CODE2`, idx 18 (R131). -/
  | rdCode2
  /-- `RD CODE3`, idx 19 (R131). -/
  | rdCode3
  /-- `RD CODE4`, idx 20 (R131). -/
  | rdCode4
  /-- `RD CODE5`, idx 21 (R131). -/
  | rdCode5
  /-- `RD CODE6`, idx 22 (R131). -/
  | rdCode6
  /-- `RD CODE7`, idx 23 (R131). -/
  | rdCode7
  /-- `RD CODE8`, idx 24 (R131). -/
  | rdCode8
  /-- `RD CODE9`, idx 25 (R131). -/
  | rdCode9
  /-- `RD #26`, idx 26 (R132). -/
  | rdSlot26
  /-- `RD #27`, idx 27 (R132). -/
  | rdSlot27
  /-- `RD #28`, idx 28 (R132). -/
  | rdSlot28
  /-- `RD #29`, idx 29 (R132). -/
  | rdSlot29
  /-- `RD #30`, idx 30 (R132). -/
  | rdSlot30
  /-- `RD #31`, idx 31 (R132). -/
  | rdSlot31
  /-- `RD #32`, idx 32 (R132). -/
  | rdSlot32
  /-- `RD #33`, idx 33 (R132). -/
  | rdSlot33
  /-- `RD #34`, idx 34 (R132). -/
  | rdSlot34
  /-- `RD #35`, idx 35 (R132). -/
  | rdSlot35
  /-- `RD #36`, idx 36 (R132). -/
  | rdSlot36
  /-- `RD #37`, idx 37 (R132). -/
  | rdSlot37
  /-- `RD #38`, idx 38 (R132). -/
  | rdSlot38
  /-- `RD #39`, idx 39 (R132). -/
  | rdSlot39
  /-- `RD #40`, idx 40 (R132). -/
  | rdSlot40
  /-- `RD #41`, idx 41 (R132). -/
  | rdSlot41
  /-- `RD #42`, idx 42 (R132). -/
  | rdSlot42
  /-- `RD #43`, idx 43 (R132). -/
  | rdSlot43
  /-- `RD #44`, idx 44 (R132). -/
  | rdSlot44
  /-- `RD #45`, idx 45 (R132). -/
  | rdSlot45
  /-- `RD #46`, idx 46 (R132). -/
  | rdSlot46
  /-- `RD #47`, idx 47 (R132). -/
  | rdSlot47
  /-- `RD #48`, idx 48 (R132). -/
  | rdSlot48
  /-- `RD #49`, idx 49 (R132). -/
  | rdSlot49
  /-- `RD #50`, idx 50 (R132). -/
  | rdSlot50
  /-- `RD #51`, idx 51 (R132). -/
  | rdSlot51
  /-- `RD #52`, idx 52 (R132). -/
  | rdSlot52
  /-- `RD #53`, idx 53 (R132). -/
  | rdSlot53
  /-- `RD #54`, idx 54 (R132). -/
  | rdSlot54
  /-- `RD #55`, idx 55 (R132). -/
  | rdSlot55
  /-- `RD #56`, idx 56 (R132). -/
  | rdSlot56
  /-- `RD #57`, idx 57 (R132). -/
  | rdSlot57
  /-- `RD #58`, idx 58 (R132). -/
  | rdSlot58
  /-- `RD #59`, idx 59 (R132). -/
  | rdSlot59
  /-- `RD #60`, idx 60 (R132). -/
  | rdSlot60
  /-- `RD #61`, idx 61 (R132). -/
  | rdSlot61
  /-- `RD #62`, idx 62 (R132). -/
  | rdSlot62
  /-- `RD #63`, idx 63 (R132). -/
  | rdSlot63
  /-- `WR CMD`, idx 0 (R126). -/
  | wrCmd (v : Word)
  /-- `WR STATUS`, idx 1 (R132). -/
  | wrStatus (v : Word)
  /-- `WR DIGITS`, idx 2 (R122). -/
  | wrDigits (v : Word)
  /-- `WR WINDOW`, idx 3 (R123). -/
  | wrWindow (v : Word)
  /-- `WR COUNTER_LO`, idx 4 (R124). -/
  | wrCounterLo (v : Word)
  /-- `WR COUNTER_HI`, idx 5 (R124). -/
  | wrCounterHi (v : Word)
  /-- `WR NOW_LO`, idx 6 (R125). -/
  | wrNowLo (v : Word)
  /-- `WR NOW_HI`, idx 7 (R125). -/
  | wrNowHi (v : Word)
  /-- `WR KEY_PUSH`, idx 8 (R127). -/
  | wrKeyPush (v : Word)
  /-- `WR KEY_LEN`, idx 9 (R132). -/
  | wrKeyLen (v : Word)
  /-- `WR CODE_LEN`, idx 10 (R132). -/
  | wrCodeLen (v : Word)
  /-- `WR CODE_VAL`, idx 11 (R132). -/
  | wrCodeVal (v : Word)
  /-- `WR #12`, idx 12 (R132). -/
  | wrSlot12 (v : Word)
  /-- `WR #13`, idx 13 (R132). -/
  | wrSlot13 (v : Word)
  /-- `WR #14`, idx 14 (R132). -/
  | wrSlot14 (v : Word)
  /-- `WR #15`, idx 15 (R132). -/
  | wrSlot15 (v : Word)
  /-- `WR CODE0`, idx 16 (R132). -/
  | wrCode0 (v : Word)
  /-- `WR CODE1`, idx 17 (R132). -/
  | wrCode1 (v : Word)
  /-- `WR CODE2`, idx 18 (R132). -/
  | wrCode2 (v : Word)
  /-- `WR CODE3`, idx 19 (R132). -/
  | wrCode3 (v : Word)
  /-- `WR CODE4`, idx 20 (R132). -/
  | wrCode4 (v : Word)
  /-- `WR CODE5`, idx 21 (R132). -/
  | wrCode5 (v : Word)
  /-- `WR CODE6`, idx 22 (R132). -/
  | wrCode6 (v : Word)
  /-- `WR CODE7`, idx 23 (R132). -/
  | wrCode7 (v : Word)
  /-- `WR CODE8`, idx 24 (R132). -/
  | wrCode8 (v : Word)
  /-- `WR CODE9`, idx 25 (R132). -/
  | wrCode9 (v : Word)
  /-- `WR #26`, idx 26 (R132). -/
  | wrSlot26 (v : Word)
  /-- `WR #27`, idx 27 (R132). -/
  | wrSlot27 (v : Word)
  /-- `WR #28`, idx 28 (R132). -/
  | wrSlot28 (v : Word)
  /-- `WR #29`, idx 29 (R132). -/
  | wrSlot29 (v : Word)
  /-- `WR #30`, idx 30 (R132). -/
  | wrSlot30 (v : Word)
  /-- `WR #31`, idx 31 (R132). -/
  | wrSlot31 (v : Word)
  /-- `WR #32`, idx 32 (R132). -/
  | wrSlot32 (v : Word)
  /-- `WR #33`, idx 33 (R132). -/
  | wrSlot33 (v : Word)
  /-- `WR #34`, idx 34 (R132). -/
  | wrSlot34 (v : Word)
  /-- `WR #35`, idx 35 (R132). -/
  | wrSlot35 (v : Word)
  /-- `WR #36`, idx 36 (R132). -/
  | wrSlot36 (v : Word)
  /-- `WR #37`, idx 37 (R132). -/
  | wrSlot37 (v : Word)
  /-- `WR #38`, idx 38 (R132). -/
  | wrSlot38 (v : Word)
  /-- `WR #39`, idx 39 (R132). -/
  | wrSlot39 (v : Word)
  /-- `WR #40`, idx 40 (R132). -/
  | wrSlot40 (v : Word)
  /-- `WR #41`, idx 41 (R132). -/
  | wrSlot41 (v : Word)
  /-- `WR #42`, idx 42 (R132). -/
  | wrSlot42 (v : Word)
  /-- `WR #43`, idx 43 (R132). -/
  | wrSlot43 (v : Word)
  /-- `WR #44`, idx 44 (R132). -/
  | wrSlot44 (v : Word)
  /-- `WR #45`, idx 45 (R132). -/
  | wrSlot45 (v : Word)
  /-- `WR #46`, idx 46 (R132). -/
  | wrSlot46 (v : Word)
  /-- `WR #47`, idx 47 (R132). -/
  | wrSlot47 (v : Word)
  /-- `WR #48`, idx 48 (R132). -/
  | wrSlot48 (v : Word)
  /-- `WR #49`, idx 49 (R132). -/
  | wrSlot49 (v : Word)
  /-- `WR #50`, idx 50 (R132). -/
  | wrSlot50 (v : Word)
  /-- `WR #51`, idx 51 (R132). -/
  | wrSlot51 (v : Word)
  /-- `WR #52`, idx 52 (R132). -/
  | wrSlot52 (v : Word)
  /-- `WR #53`, idx 53 (R132). -/
  | wrSlot53 (v : Word)
  /-- `WR #54`, idx 54 (R132). -/
  | wrSlot54 (v : Word)
  /-- `WR #55`, idx 55 (R132). -/
  | wrSlot55 (v : Word)
  /-- `WR #56`, idx 56 (R132). -/
  | wrSlot56 (v : Word)
  /-- `WR #57`, idx 57 (R132). -/
  | wrSlot57 (v : Word)
  /-- `WR #58`, idx 58 (R132). -/
  | wrSlot58 (v : Word)
  /-- `WR #59`, idx 59 (R132). -/
  | wrSlot59 (v : Word)
  /-- `WR #60`, idx 60 (R132). -/
  | wrSlot60 (v : Word)
  /-- `WR #61`, idx 61 (R132). -/
  | wrSlot61 (v : Word)
  /-- `WR #62`, idx 62 (R132). -/
  | wrSlot62 (v : Word)
  /-- `WR #63`, idx 63 (R132). -/
  | wrSlot63 (v : Word)
  deriving DecidableEq, Repr

/-- What one word brings to the core: a transaction word of format T (R91, 39 bits) or a command word of format C (R93, 32 bits).
The command word stands for the host-program line that the spec expands to `WR CMD, w` (R102). -/
inductive BusWord where
  /-- A transaction word `t = we ++ idx ++ wdata` (R91). -/
  | transaction (t : BitVec 39)
  /-- A command word `w`, written to CMD (R93). -/
  | command (w : Word)
  deriving DecidableEq, Repr

/-- The five results of `decode_cmd` (R95). -/
inductive Cmd where
  /-- OPC 1. -/
  | hotp
  /-- OPC 2. -/
  | totp
  /-- OPC 3. -/
  | ldtime
  /-- OPC 4. -/
  | clear
  /-- Every other word (R96). -/
  | illegal
  deriving DecidableEq, Repr

end Sys2Proof
end

