-- ==== Sys2Proof/WellFormed.lean ====
section
/-! DEFINITION. Which instructions stand for a word of spec/opcode_table.json. Every field is as wide as its operand, so the only
checks are those of the 28 rows ILLEGAL.RSVD4 to ILLEGAL.RSVD31, whose constructors carry the whole command word. -/

namespace Sys2Proof

/-- The number of the lowest set bit among the reserved bits `w[31:4]` of a command word (R93), if one is set. -/
def lowestReserved (w : Word) : Option Nat :=
  ((List.range 28).map (· + 4)).find? (fun k => w.getLsbD k)

/-- An instruction is well formed when the row it names is the one its word is decoded to: the table's rows ILLEGAL.RSVD4..31
overlap, and the model names such a word by its LOWEST set reserved bit (DESIGN CHOICE, log 6). -/
def wellFormed : Instr → Bool
  | .hotp => true
  | .totp => true
  | .ldtime => true
  | .clear => true
  | .illegalOpc0 => true
  | .illegalOpc5 => true
  | .illegalOpc6 => true
  | .illegalOpc7 => true
  | .illegalOpc8 => true
  | .illegalOpc9 => true
  | .illegalOpc10 => true
  | .illegalOpc11 => true
  | .illegalOpc12 => true
  | .illegalOpc13 => true
  | .illegalOpc14 => true
  | .illegalOpc15 => true
  | .illegalRsvd4 w => lowestReserved w == some 4
  | .illegalRsvd5 w => lowestReserved w == some 5
  | .illegalRsvd6 w => lowestReserved w == some 6
  | .illegalRsvd7 w => lowestReserved w == some 7
  | .illegalRsvd8 w => lowestReserved w == some 8
  | .illegalRsvd9 w => lowestReserved w == some 9
  | .illegalRsvd10 w => lowestReserved w == some 10
  | .illegalRsvd11 w => lowestReserved w == some 11
  | .illegalRsvd12 w => lowestReserved w == some 12
  | .illegalRsvd13 w => lowestReserved w == some 13
  | .illegalRsvd14 w => lowestReserved w == some 14
  | .illegalRsvd15 w => lowestReserved w == some 15
  | .illegalRsvd16 w => lowestReserved w == some 16
  | .illegalRsvd17 w => lowestReserved w == some 17
  | .illegalRsvd18 w => lowestReserved w == some 18
  | .illegalRsvd19 w => lowestReserved w == some 19
  | .illegalRsvd20 w => lowestReserved w == some 20
  | .illegalRsvd21 w => lowestReserved w == some 21
  | .illegalRsvd22 w => lowestReserved w == some 22
  | .illegalRsvd23 w => lowestReserved w == some 23
  | .illegalRsvd24 w => lowestReserved w == some 24
  | .illegalRsvd25 w => lowestReserved w == some 25
  | .illegalRsvd26 w => lowestReserved w == some 26
  | .illegalRsvd27 w => lowestReserved w == some 27
  | .illegalRsvd28 w => lowestReserved w == some 28
  | .illegalRsvd29 w => lowestReserved w == some 29
  | .illegalRsvd30 w => lowestReserved w == some 30
  | .illegalRsvd31 w => lowestReserved w == some 31
  | .rdCmd => true
  | .rdStatus => true
  | .rdDigits => true
  | .rdWindow => true
  | .rdCounterLo => true
  | .rdCounterHi => true
  | .rdNowLo => true
  | .rdNowHi => true
  | .rdKeyPush => true
  | .rdKeyLen => true
  | .rdCodeLen => true
  | .rdCodeVal => true
  | .rdSlot12 => true
  | .rdSlot13 => true
  | .rdSlot14 => true
  | .rdSlot15 => true
  | .rdCode0 => true
  | .rdCode1 => true
  | .rdCode2 => true
  | .rdCode3 => true
  | .rdCode4 => true
  | .rdCode5 => true
  | .rdCode6 => true
  | .rdCode7 => true
  | .rdCode8 => true
  | .rdCode9 => true
  | .rdSlot26 => true
  | .rdSlot27 => true
  | .rdSlot28 => true
  | .rdSlot29 => true
  | .rdSlot30 => true
  | .rdSlot31 => true
  | .rdSlot32 => true
  | .rdSlot33 => true
  | .rdSlot34 => true
  | .rdSlot35 => true
  | .rdSlot36 => true
  | .rdSlot37 => true
  | .rdSlot38 => true
  | .rdSlot39 => true
  | .rdSlot40 => true
  | .rdSlot41 => true
  | .rdSlot42 => true
  | .rdSlot43 => true
  | .rdSlot44 => true
  | .rdSlot45 => true
  | .rdSlot46 => true
  | .rdSlot47 => true
  | .rdSlot48 => true
  | .rdSlot49 => true
  | .rdSlot50 => true
  | .rdSlot51 => true
  | .rdSlot52 => true
  | .rdSlot53 => true
  | .rdSlot54 => true
  | .rdSlot55 => true
  | .rdSlot56 => true
  | .rdSlot57 => true
  | .rdSlot58 => true
  | .rdSlot59 => true
  | .rdSlot60 => true
  | .rdSlot61 => true
  | .rdSlot62 => true
  | .rdSlot63 => true
  | .wrCmd _ => true
  | .wrStatus _ => true
  | .wrDigits _ => true
  | .wrWindow _ => true
  | .wrCounterLo _ => true
  | .wrCounterHi _ => true
  | .wrNowLo _ => true
  | .wrNowHi _ => true
  | .wrKeyPush _ => true
  | .wrKeyLen _ => true
  | .wrCodeLen _ => true
  | .wrCodeVal _ => true
  | .wrSlot12 _ => true
  | .wrSlot13 _ => true
  | .wrSlot14 _ => true
  | .wrSlot15 _ => true
  | .wrCode0 _ => true
  | .wrCode1 _ => true
  | .wrCode2 _ => true
  | .wrCode3 _ => true
  | .wrCode4 _ => true
  | .wrCode5 _ => true
  | .wrCode6 _ => true
  | .wrCode7 _ => true
  | .wrCode8 _ => true
  | .wrCode9 _ => true
  | .wrSlot26 _ => true
  | .wrSlot27 _ => true
  | .wrSlot28 _ => true
  | .wrSlot29 _ => true
  | .wrSlot30 _ => true
  | .wrSlot31 _ => true
  | .wrSlot32 _ => true
  | .wrSlot33 _ => true
  | .wrSlot34 _ => true
  | .wrSlot35 _ => true
  | .wrSlot36 _ => true
  | .wrSlot37 _ => true
  | .wrSlot38 _ => true
  | .wrSlot39 _ => true
  | .wrSlot40 _ => true
  | .wrSlot41 _ => true
  | .wrSlot42 _ => true
  | .wrSlot43 _ => true
  | .wrSlot44 _ => true
  | .wrSlot45 _ => true
  | .wrSlot46 _ => true
  | .wrSlot47 _ => true
  | .wrSlot48 _ => true
  | .wrSlot49 _ => true
  | .wrSlot50 _ => true
  | .wrSlot51 _ => true
  | .wrSlot52 _ => true
  | .wrSlot53 _ => true
  | .wrSlot54 _ => true
  | .wrSlot55 _ => true
  | .wrSlot56 _ => true
  | .wrSlot57 _ => true
  | .wrSlot58 _ => true
  | .wrSlot59 _ => true
  | .wrSlot60 _ => true
  | .wrSlot61 _ => true
  | .wrSlot62 _ => true
  | .wrSlot63 _ => true

end Sys2Proof
end

