-- ==== Sys2Proof/Decode.lean ====
section
/-! DEFINITION. The decoder (spec/30_encoding.md R90 to R97) and, after it, the encoder written from the same tables. -/

namespace Sys2Proof

/-! ## Fields of the two formats -/

/-- Bit 38 of a transaction word: 1 = `RegWrite`, 0 = `RegRead` (R91). -/
def tWe (t : BitVec 39) : Bool := t.getLsbD 38

/-- Bits 37:32 of a transaction word, the word index (R91). -/
def tIdx (t : BitVec 39) : Idx := t.extractLsb' 32 6

/-- Bits 31:0 of a transaction word (R91). -/
def tWdata (t : BitVec 39) : Word := t.extractLsb' 0 32

/-- Bits 3:0 of a command word (R93). -/
def cOpc (w : Word) : BitVec 4 := w.extractLsb' 0 4

/-- Bits 31:4 of a command word, reserved (R93). -/
def cRsvd (w : Word) : BitVec 28 := w.extractLsb' 4 28

/-! ## Decoding a command word -/

/-- `decode_cmd` (R95): "a total function of the written word alone, independent of the state". -/
def decodeCmd (w : Word) : Cmd :=
  if cRsvd w != 0#28 then .illegal
  else match (cOpc w).toNat with
    | 1 => .hotp
    | 2 => .totp
    | 3 => .ldtime
    | 4 => .clear
    | _ => .illegal

/-- The rows of format C whose reserved bits are zero, by opcode (R94, R96). -/
def opcRow (opc : Nat) : Instr :=
  match opc with
  | 0 => .illegalOpc0
  | 1 => .hotp
  | 2 => .totp
  | 3 => .ldtime
  | 4 => .clear
  | 5 => .illegalOpc5
  | 6 => .illegalOpc6
  | 7 => .illegalOpc7
  | 8 => .illegalOpc8
  | 9 => .illegalOpc9
  | 10 => .illegalOpc10
  | 11 => .illegalOpc11
  | 12 => .illegalOpc12
  | 13 => .illegalOpc13
  | 14 => .illegalOpc14
  | _ => .illegalOpc15

/-- The rows of format C with reserved bit `k` set (R96). -/
def rsvdRow (k : Nat) (w : Word) : Instr :=
  match k with
  | 4 => .illegalRsvd4 w
  | 5 => .illegalRsvd5 w
  | 6 => .illegalRsvd6 w
  | 7 => .illegalRsvd7 w
  | 8 => .illegalRsvd8 w
  | 9 => .illegalRsvd9 w
  | 10 => .illegalRsvd10 w
  | 11 => .illegalRsvd11 w
  | 12 => .illegalRsvd12 w
  | 13 => .illegalRsvd13 w
  | 14 => .illegalRsvd14 w
  | 15 => .illegalRsvd15 w
  | 16 => .illegalRsvd16 w
  | 17 => .illegalRsvd17 w
  | 18 => .illegalRsvd18 w
  | 19 => .illegalRsvd19 w
  | 20 => .illegalRsvd20 w
  | 21 => .illegalRsvd21 w
  | 22 => .illegalRsvd22 w
  | 23 => .illegalRsvd23 w
  | 24 => .illegalRsvd24 w
  | 25 => .illegalRsvd25 w
  | 26 => .illegalRsvd26 w
  | 27 => .illegalRsvd27 w
  | 28 => .illegalRsvd28 w
  | 29 => .illegalRsvd29 w
  | 30 => .illegalRsvd30 w
  | _ => .illegalRsvd31 w

/-- The instruction a command word is a row of (R94 to R96). The rows with a reserved bit set overlap; the lowest set bit names the
row (DESIGN CHOICE, log 6). -/
def decodeCommand (w : Word) : Instr :=
  match lowestReserved w with
  | none => opcRow (cOpc w).toNat
  | some k => rsvdRow k w

/-! ## Decoding a transaction word -/

/-- The rows with `we` = 0, idx 0 to 63 in order (R92). -/
def readRows : List Instr :=
  [Instr.rdCmd, Instr.rdStatus, Instr.rdDigits, Instr.rdWindow, Instr.rdCounterLo, Instr.rdCounterHi, Instr.rdNowLo, Instr.rdNowHi] ++
  [Instr.rdKeyPush, Instr.rdKeyLen, Instr.rdCodeLen, Instr.rdCodeVal, Instr.rdSlot12, Instr.rdSlot13, Instr.rdSlot14, Instr.rdSlot15] ++
  [Instr.rdCode0, Instr.rdCode1, Instr.rdCode2, Instr.rdCode3, Instr.rdCode4, Instr.rdCode5, Instr.rdCode6, Instr.rdCode7] ++
  [Instr.rdCode8, Instr.rdCode9, Instr.rdSlot26, Instr.rdSlot27, Instr.rdSlot28, Instr.rdSlot29, Instr.rdSlot30, Instr.rdSlot31] ++
  [Instr.rdSlot32, Instr.rdSlot33, Instr.rdSlot34, Instr.rdSlot35, Instr.rdSlot36, Instr.rdSlot37, Instr.rdSlot38, Instr.rdSlot39] ++
  [Instr.rdSlot40, Instr.rdSlot41, Instr.rdSlot42, Instr.rdSlot43, Instr.rdSlot44, Instr.rdSlot45, Instr.rdSlot46, Instr.rdSlot47] ++
  [Instr.rdSlot48, Instr.rdSlot49, Instr.rdSlot50, Instr.rdSlot51, Instr.rdSlot52, Instr.rdSlot53, Instr.rdSlot54, Instr.rdSlot55] ++
  [Instr.rdSlot56, Instr.rdSlot57, Instr.rdSlot58, Instr.rdSlot59, Instr.rdSlot60, Instr.rdSlot61, Instr.rdSlot62, Instr.rdSlot63]

/-- The rows with `we` = 1, idx 0 to 63 in order (R92). -/
def writeRows : List (Word → Instr) :=
  [Instr.wrCmd, Instr.wrStatus, Instr.wrDigits, Instr.wrWindow, Instr.wrCounterLo, Instr.wrCounterHi, Instr.wrNowLo, Instr.wrNowHi] ++
  [Instr.wrKeyPush, Instr.wrKeyLen, Instr.wrCodeLen, Instr.wrCodeVal, Instr.wrSlot12, Instr.wrSlot13, Instr.wrSlot14, Instr.wrSlot15] ++
  [Instr.wrCode0, Instr.wrCode1, Instr.wrCode2, Instr.wrCode3, Instr.wrCode4, Instr.wrCode5, Instr.wrCode6, Instr.wrCode7] ++
  [Instr.wrCode8, Instr.wrCode9, Instr.wrSlot26, Instr.wrSlot27, Instr.wrSlot28, Instr.wrSlot29, Instr.wrSlot30, Instr.wrSlot31] ++
  [Instr.wrSlot32, Instr.wrSlot33, Instr.wrSlot34, Instr.wrSlot35, Instr.wrSlot36, Instr.wrSlot37, Instr.wrSlot38, Instr.wrSlot39] ++
  [Instr.wrSlot40, Instr.wrSlot41, Instr.wrSlot42, Instr.wrSlot43, Instr.wrSlot44, Instr.wrSlot45, Instr.wrSlot46, Instr.wrSlot47] ++
  [Instr.wrSlot48, Instr.wrSlot49, Instr.wrSlot50, Instr.wrSlot51, Instr.wrSlot52, Instr.wrSlot53, Instr.wrSlot54, Instr.wrSlot55] ++
  [Instr.wrSlot56, Instr.wrSlot57, Instr.wrSlot58, Instr.wrSlot59, Instr.wrSlot60, Instr.wrSlot61, Instr.wrSlot62, Instr.wrSlot63]

/-- The row of a read of slot `idx` (R92). -/
def readRow (idx : Idx) : Instr := readRows.getD idx.toNat .rdCmd

/-- The row of a write of `v` to slot `idx` (R92). -/
def writeRow (idx : Idx) (v : Word) : Instr := writeRows.getD idx.toNat .wrCmd v

/-- Format T: "The pair (`we`, `idx`) alone selects the rule; `wdata` is an operand" (R92). -/
def decodeTransaction (t : BitVec 39) : Instr :=
  if tWe t then writeRow (tIdx t) (tWdata t) else readRow (tIdx t)

/-- The instruction a word brings. Total: "every 39-bit word selects exactly one row" (R92), every 32-bit word is a command or illegal
(R95). -/
def decodeWord : BusWord → Instr
  | .transaction t => decodeTransaction t
  | .command w => decodeCommand w

/-! ## Words as bytes -/

/-- Why a byte sequence is no word of the core. -/
inductive DecodeError where
  /-- Neither the 4 bytes of a command word nor the 5 bytes of a transaction word (R90: both have "a single fixed length"). -/
  | badLength (n : Nat)
  /-- Five bytes whose bit 39 is set: a transaction word has 39 bits (R91). -/
  | bit39Set
  deriving DecidableEq, Repr

/-- The number a byte sequence denotes, its first byte the least significant (DESIGN CHOICE, log 5: the spec lays no word out in
bytes). -/
def leNat : List Byte → Nat
  | [] => 0
  | b :: bs => b.toNat + 256 * leNat bs

/-- The `n` bytes of `v`, the least significant first. -/
def leBytes : Nat → Nat → List Byte
  | 0, _ => []
  | n + 1, v => BitVec.ofNat 8 v :: leBytes n (v / 256)

/-- The word a byte sequence lays out: four bytes a command word, five a transaction word with bit 39 clear. -/
def busWordOfBytes (bs : List Byte) : Except DecodeError BusWord :=
  if bs.length = 4 then .ok (.command (BitVec.ofNat 32 (leNat bs)))
  else if bs.length = 5 then
    if leNat bs < 2 ^ 39 then .ok (.transaction (BitVec.ofNat 39 (leNat bs))) else .error .bit39Set
  else .error (.badLength bs.length)

/-- The decoder on bytes: total, rejecting by name. -/
def decodeBytes (bs : List Byte) : Except DecodeError Instr :=
  match busWordOfBytes bs with
  | .ok b => .ok (decodeWord b)
  | .error e => .error e

/-- The decoder on a word as spec/opcode_table.json numbers its bits, `nbits` wide rounded up to whole bytes. -/
def decodeTableWord (nbits w : Nat) : Option Instr :=
  if w < 2 ^ nbits then (decodeBytes (leBytes ((nbits + 7) / 8) w)).toOption else none

/-- The word of `nbits` bits as it reaches the core: at most 32 bits a command word, more a transaction word. -/
def busWordOfTable (nbits w : Nat) : BusWord :=
  if nbits ≤ 32 then .command (BitVec.ofNat 32 w) else .transaction (BitVec.ofNat 39 w)

/-! ## The encoder -/

/-- The transaction word of `RD` of slot `idx`: `we` = 0, `wdata` "written as 0" (R91). -/
def readWord (idx : Idx) : BitVec 39 := 0#1 ++ idx ++ 0#32

/-- The transaction word of `WR` of `v` to slot `idx` (R91). -/
def writeWord (idx : Idx) (v : Word) : BitVec 39 := 1#1 ++ idx ++ v

/-- The word of an instruction, from the tables of R92, R94 and R96. -/
def encode : Instr → BusWord
  | .hotp => .command 0x00000001#32
  | .totp => .command 0x00000002#32
  | .ldtime => .command 0x00000003#32
  | .clear => .command 0x00000004#32
  | .illegalOpc0 => .command 0x00000000#32
  | .illegalOpc5 => .command 0x00000005#32
  | .illegalOpc6 => .command 0x00000006#32
  | .illegalOpc7 => .command 0x00000007#32
  | .illegalOpc8 => .command 0x00000008#32
  | .illegalOpc9 => .command 0x00000009#32
  | .illegalOpc10 => .command 0x0000000a#32
  | .illegalOpc11 => .command 0x0000000b#32
  | .illegalOpc12 => .command 0x0000000c#32
  | .illegalOpc13 => .command 0x0000000d#32
  | .illegalOpc14 => .command 0x0000000e#32
  | .illegalOpc15 => .command 0x0000000f#32
  | .illegalRsvd4 w => .command w
  | .illegalRsvd5 w => .command w
  | .illegalRsvd6 w => .command w
  | .illegalRsvd7 w => .command w
  | .illegalRsvd8 w => .command w
  | .illegalRsvd9 w => .command w
  | .illegalRsvd10 w => .command w
  | .illegalRsvd11 w => .command w
  | .illegalRsvd12 w => .command w
  | .illegalRsvd13 w => .command w
  | .illegalRsvd14 w => .command w
  | .illegalRsvd15 w => .command w
  | .illegalRsvd16 w => .command w
  | .illegalRsvd17 w => .command w
  | .illegalRsvd18 w => .command w
  | .illegalRsvd19 w => .command w
  | .illegalRsvd20 w => .command w
  | .illegalRsvd21 w => .command w
  | .illegalRsvd22 w => .command w
  | .illegalRsvd23 w => .command w
  | .illegalRsvd24 w => .command w
  | .illegalRsvd25 w => .command w
  | .illegalRsvd26 w => .command w
  | .illegalRsvd27 w => .command w
  | .illegalRsvd28 w => .command w
  | .illegalRsvd29 w => .command w
  | .illegalRsvd30 w => .command w
  | .illegalRsvd31 w => .command w
  | .rdCmd => .transaction (readWord 0#6)
  | .rdStatus => .transaction (readWord 1#6)
  | .rdDigits => .transaction (readWord 2#6)
  | .rdWindow => .transaction (readWord 3#6)
  | .rdCounterLo => .transaction (readWord 4#6)
  | .rdCounterHi => .transaction (readWord 5#6)
  | .rdNowLo => .transaction (readWord 6#6)
  | .rdNowHi => .transaction (readWord 7#6)
  | .rdKeyPush => .transaction (readWord 8#6)
  | .rdKeyLen => .transaction (readWord 9#6)
  | .rdCodeLen => .transaction (readWord 10#6)
  | .rdCodeVal => .transaction (readWord 11#6)
  | .rdSlot12 => .transaction (readWord 12#6)
  | .rdSlot13 => .transaction (readWord 13#6)
  | .rdSlot14 => .transaction (readWord 14#6)
  | .rdSlot15 => .transaction (readWord 15#6)
  | .rdCode0 => .transaction (readWord 16#6)
  | .rdCode1 => .transaction (readWord 17#6)
  | .rdCode2 => .transaction (readWord 18#6)
  | .rdCode3 => .transaction (readWord 19#6)
  | .rdCode4 => .transaction (readWord 20#6)
  | .rdCode5 => .transaction (readWord 21#6)
  | .rdCode6 => .transaction (readWord 22#6)
  | .rdCode7 => .transaction (readWord 23#6)
  | .rdCode8 => .transaction (readWord 24#6)
  | .rdCode9 => .transaction (readWord 25#6)
  | .rdSlot26 => .transaction (readWord 26#6)
  | .rdSlot27 => .transaction (readWord 27#6)
  | .rdSlot28 => .transaction (readWord 28#6)
  | .rdSlot29 => .transaction (readWord 29#6)
  | .rdSlot30 => .transaction (readWord 30#6)
  | .rdSlot31 => .transaction (readWord 31#6)
  | .rdSlot32 => .transaction (readWord 32#6)
  | .rdSlot33 => .transaction (readWord 33#6)
  | .rdSlot34 => .transaction (readWord 34#6)
  | .rdSlot35 => .transaction (readWord 35#6)
  | .rdSlot36 => .transaction (readWord 36#6)
  | .rdSlot37 => .transaction (readWord 37#6)
  | .rdSlot38 => .transaction (readWord 38#6)
  | .rdSlot39 => .transaction (readWord 39#6)
  | .rdSlot40 => .transaction (readWord 40#6)
  | .rdSlot41 => .transaction (readWord 41#6)
  | .rdSlot42 => .transaction (readWord 42#6)
  | .rdSlot43 => .transaction (readWord 43#6)
  | .rdSlot44 => .transaction (readWord 44#6)
  | .rdSlot45 => .transaction (readWord 45#6)
  | .rdSlot46 => .transaction (readWord 46#6)
  | .rdSlot47 => .transaction (readWord 47#6)
  | .rdSlot48 => .transaction (readWord 48#6)
  | .rdSlot49 => .transaction (readWord 49#6)
  | .rdSlot50 => .transaction (readWord 50#6)
  | .rdSlot51 => .transaction (readWord 51#6)
  | .rdSlot52 => .transaction (readWord 52#6)
  | .rdSlot53 => .transaction (readWord 53#6)
  | .rdSlot54 => .transaction (readWord 54#6)
  | .rdSlot55 => .transaction (readWord 55#6)
  | .rdSlot56 => .transaction (readWord 56#6)
  | .rdSlot57 => .transaction (readWord 57#6)
  | .rdSlot58 => .transaction (readWord 58#6)
  | .rdSlot59 => .transaction (readWord 59#6)
  | .rdSlot60 => .transaction (readWord 60#6)
  | .rdSlot61 => .transaction (readWord 61#6)
  | .rdSlot62 => .transaction (readWord 62#6)
  | .rdSlot63 => .transaction (readWord 63#6)
  | .wrCmd v => .transaction (writeWord 0#6 v)
  | .wrStatus v => .transaction (writeWord 1#6 v)
  | .wrDigits v => .transaction (writeWord 2#6 v)
  | .wrWindow v => .transaction (writeWord 3#6 v)
  | .wrCounterLo v => .transaction (writeWord 4#6 v)
  | .wrCounterHi v => .transaction (writeWord 5#6 v)
  | .wrNowLo v => .transaction (writeWord 6#6 v)
  | .wrNowHi v => .transaction (writeWord 7#6 v)
  | .wrKeyPush v => .transaction (writeWord 8#6 v)
  | .wrKeyLen v => .transaction (writeWord 9#6 v)
  | .wrCodeLen v => .transaction (writeWord 10#6 v)
  | .wrCodeVal v => .transaction (writeWord 11#6 v)
  | .wrSlot12 v => .transaction (writeWord 12#6 v)
  | .wrSlot13 v => .transaction (writeWord 13#6 v)
  | .wrSlot14 v => .transaction (writeWord 14#6 v)
  | .wrSlot15 v => .transaction (writeWord 15#6 v)
  | .wrCode0 v => .transaction (writeWord 16#6 v)
  | .wrCode1 v => .transaction (writeWord 17#6 v)
  | .wrCode2 v => .transaction (writeWord 18#6 v)
  | .wrCode3 v => .transaction (writeWord 19#6 v)
  | .wrCode4 v => .transaction (writeWord 20#6 v)
  | .wrCode5 v => .transaction (writeWord 21#6 v)
  | .wrCode6 v => .transaction (writeWord 22#6 v)
  | .wrCode7 v => .transaction (writeWord 23#6 v)
  | .wrCode8 v => .transaction (writeWord 24#6 v)
  | .wrCode9 v => .transaction (writeWord 25#6 v)
  | .wrSlot26 v => .transaction (writeWord 26#6 v)
  | .wrSlot27 v => .transaction (writeWord 27#6 v)
  | .wrSlot28 v => .transaction (writeWord 28#6 v)
  | .wrSlot29 v => .transaction (writeWord 29#6 v)
  | .wrSlot30 v => .transaction (writeWord 30#6 v)
  | .wrSlot31 v => .transaction (writeWord 31#6 v)
  | .wrSlot32 v => .transaction (writeWord 32#6 v)
  | .wrSlot33 v => .transaction (writeWord 33#6 v)
  | .wrSlot34 v => .transaction (writeWord 34#6 v)
  | .wrSlot35 v => .transaction (writeWord 35#6 v)
  | .wrSlot36 v => .transaction (writeWord 36#6 v)
  | .wrSlot37 v => .transaction (writeWord 37#6 v)
  | .wrSlot38 v => .transaction (writeWord 38#6 v)
  | .wrSlot39 v => .transaction (writeWord 39#6 v)
  | .wrSlot40 v => .transaction (writeWord 40#6 v)
  | .wrSlot41 v => .transaction (writeWord 41#6 v)
  | .wrSlot42 v => .transaction (writeWord 42#6 v)
  | .wrSlot43 v => .transaction (writeWord 43#6 v)
  | .wrSlot44 v => .transaction (writeWord 44#6 v)
  | .wrSlot45 v => .transaction (writeWord 45#6 v)
  | .wrSlot46 v => .transaction (writeWord 46#6 v)
  | .wrSlot47 v => .transaction (writeWord 47#6 v)
  | .wrSlot48 v => .transaction (writeWord 48#6 v)
  | .wrSlot49 v => .transaction (writeWord 49#6 v)
  | .wrSlot50 v => .transaction (writeWord 50#6 v)
  | .wrSlot51 v => .transaction (writeWord 51#6 v)
  | .wrSlot52 v => .transaction (writeWord 52#6 v)
  | .wrSlot53 v => .transaction (writeWord 53#6 v)
  | .wrSlot54 v => .transaction (writeWord 54#6 v)
  | .wrSlot55 v => .transaction (writeWord 55#6 v)
  | .wrSlot56 v => .transaction (writeWord 56#6 v)
  | .wrSlot57 v => .transaction (writeWord 57#6 v)
  | .wrSlot58 v => .transaction (writeWord 58#6 v)
  | .wrSlot59 v => .transaction (writeWord 59#6 v)
  | .wrSlot60 v => .transaction (writeWord 60#6 v)
  | .wrSlot61 v => .transaction (writeWord 61#6 v)
  | .wrSlot62 v => .transaction (writeWord 62#6 v)
  | .wrSlot63 v => .transaction (writeWord 63#6 v)

/-- The bytes of a word, in the layout `decodeBytes` reads. -/
def bytesOfBusWord : BusWord → List Byte
  | .transaction t => leBytes 5 t.toNat
  | .command w => leBytes 4 w.toNat

/-- The bytes of an instruction. -/
def encodeBytes (i : Instr) : List Byte := bytesOfBusWord (encode i)

end Sys2Proof
end

