-- ==== Sys2Proof/Config.lean ====
section
/-! DEFINITION. What an implementation of the OTP core fixes (spec/00_scope.md R8) and the model's one free input, the
`time_in` draws (spec/60_exceptions.md R245). -/

namespace Sys2Proof

/-- The parameter `KEY_MAX` of R8: "4 <= KEY_MAX <= 256, multiple of 4". It is held as its quarter less one, so that the type
excludes every other value (spec/93_implementation_defined.md U2: "the model's parameter type excludes it"). -/
structure KeyMax where
  quarterLessOne : Fin 64
  deriving DecidableEq, Repr

/-- The capacity of the key buffer in bytes, 4 to 256 in steps of 4 (R8). -/
def KeyMax.bytes (k : KeyMax) : Nat := 4 * (k.quarterLessOne.val + 1)

/-- The reference value 128 of R8. -/
def KeyMax.reference : KeyMax := { quarterLessOne := 31 }

/-- The least capacity, 4, which the spec's small-buffer vectors use (spec/95_test_vectors.md V26, V84). -/
def KeyMax.least : KeyMax := { quarterLessOne := 0 }

namespace Config

/-- `DIGITS_MAX` (R8). -/
abbrev digitsMax : Nat := 10

/-- `DIGITS_DEFAULT`, the reset value of DIGITS (R8). -/
abbrev digitsDefault : Word := 6#32

/-- `WINDOW_DEFAULT`, the reset value of WINDOW (R8). -/
abbrev windowDefault : Word := 30#32

/-- `B`, bytes in one hash block (R8). -/
abbrev blockBytes : Nat := 64

/-- FREE VALUE. What the platform drives on `time_in` at the `n`-th draw of a run that names no value for it: "a free 64-bit
input of the LDTIME step, under no law of the core" (R245). It has no body, so nothing can be proved of its values (log 3). -/
opaque timeIn : Nat → DWord

end Config

end Sys2Proof
end

