-- ==== Sys2Proof/Machine/State.lean ====
section
/-! DEFINITION. The state of the machine: the record `S` of spec/10_state.md R20 whole, and beside it what the model keeps of the
outside world (the host's coming words, the port's last answer, the coming `time_in` values, the parameter `KEY_MAX`). -/

namespace Sys2Proof.Machine

/-- The record `S` of R20, "exactly these fields". -/
structure OtpState where
  /-- DIGITS, requested output length (R23). -/
  digits : Word
  /-- WINDOW, TOTP time step in seconds (R24). -/
  window : Word
  /-- COUNTER, 64-bit unsigned (R25). -/
  counter : DWord
  /-- NOW, a pattern read as two's-complement seconds (R26). -/
  now : DWord
  /-- KEY, `KEY_MAX` bytes (R36). -/
  key : List Byte
  /-- KEY_LEN, 0 to `KEY_MAX` (R34). -/
  keyLen : Nat
  /-- KEY_OVF (R30). -/
  keyOvf : Bool
  /-- OK (R29). -/
  ok : Bool
  /-- ERR (R29). -/
  err : Bool
  /-- ERRCODE, four bits (R29, R33). -/
  errCode : BitVec 4
  /-- CODE, ten characters, leftmost first (R38). -/
  code : Vector Byte 10
  /-- CODE_LEN, 0 = no code (R35). -/
  codeLen : Nat
  /-- CODE_VAL (R35). -/
  codeVal : Word
  deriving DecidableEq, Repr

/-- What acts on the state from outside (R60: "Two things act on the state: the host, and reset"). -/
inductive HostEvent where
  /-- One word of the host: a transaction, or a command word standing for `WR CMD` of it (R62, R102). -/
  | word (b : BusWord)
  /-- The `rst` input acts, between two transactions (R260, R261). -/
  | reset
  deriving DecidableEq, Repr

/-- The machine and its surroundings. Only `otp` is state of the spec; the other fields are the MODEL'S own (log 1 to 4). -/
structure State where
  /-- The parameter `KEY_MAX` (R8: "A model takes `KEY_MAX` as an argument"); no step changes it. -/
  keyMax : KeyMax
  /-- The record `S`. -/
  otp : OtpState
  /-- What the host and `rst` will do, the next event first (R74: served "strictly one at a time in the order the carrier delivers
  them"). -/
  inputs : List HostEvent
  /-- What the last event returned to the host: a read returns a word, a write "returns nothing" (R62). -/
  response : Option Word
  /-- The values the platform drives on `time_in` at the coming draws, the next first (R245). -/
  timeIn : List DWord
  /-- How many draws of `time_in` were made; past the values in `timeIn` a draw is the free value `Config.timeIn draws`. -/
  draws : Nat
  deriving DecidableEq, Repr

/-- The failure kinds of R231. -/
inductive Failure where
  /-- 1, HOTP and TOTP (R232). -/
  | invalidArgument
  /-- 2, "no command of this hardware ever produces it" (R233). -/
  | overflow
  /-- 3, a write to CMD of an illegal word (R234). -/
  | illegalCommand
  /-- 4, HOTP and TOTP (R235). -/
  | keyTooLong
  deriving DecidableEq, Repr

/-- Why the machine would stop with a fault: nothing does. "There is no error response: every transaction with any `idx` and any
`v` completes" (R62), and a failing command is a next state ("The core does not stop or lock after a failure", R238). The
type has no constructor, so no meaning can raise one; that is the spec's rule and neither safe nor unsafe. -/
inductive Fault where
  deriving DecidableEq, Repr

/-- Why the model has no meaning for an instruction. -/
inductive Refusal where
  /-- Raised by an arm of `exec` whose instruction has no meaning yet; safe, since the machine stops. No arm raises it now. -/
  | notModelled (mnemonic : String)
  deriving DecidableEq, Repr

/-- The record `S` after reset, every field at the value in the last column of R20, for a buffer of `keyMax` bytes. -/
def OtpState.reset (keyMax : Nat) : OtpState where
  digits := Config.digitsDefault
  window := Config.windowDefault
  counter := 0#64
  now := 0#64
  key := List.replicate keyMax 0#8
  keyLen := 0
  keyOvf := false
  ok := false
  err := false
  errCode := 0#4
  code := Vector.replicate 10 0#8
  codeLen := 0
  codeVal := 0#32

/-- The machine after reset with a key buffer of the capacity `k`: no host event waits, nothing was returned, no `time_in` value is
named (log 2, 3, 4). -/
def State.resetWith (k : KeyMax) : State where
  keyMax := k
  otp := OtpState.reset k.bytes
  inputs := []
  response := none
  timeIn := []
  draws := 0

/-- The machine right after reset, with the reference capacity of 128 bytes (R8; log 1). -/
def State.reset : State := State.resetWith KeyMax.reference

end Sys2Proof.Machine
end

