-- ==== Sys2Proof/Machine/Flags.lean ====
section
/-! DEFINITION. The flags: STATUS (spec/10_state.md R28 to R33) and the outcome fields OK, ERR, ERRCODE (R29). -/

namespace Sys2Proof.Machine

/-- The ERRCODE of a failure kind (spec/60_exceptions.md R231). -/
def Failure.code : Failure → BitVec 4
  | .invalidArgument => 1#4
  | .overflow => 2#4
  | .illegalCommand => 3#4
  | .keyTooLong => 4#4

/-- STATUS: `zext_32(S.KEY_OVF ++ S.ERRCODE ++ 0b00 ++ S.ERR ++ S.OK)` (R33). -/
def statusWord (S : OtpState) : Word :=
  (BitVec.ofBool S.keyOvf ++ S.errCode ++ 0#2 ++ BitVec.ofBool S.err ++ BitVec.ofBool S.ok : BitVec 9).setWidth 32

/-- "success gives OK=1, ERR=0, ERRCODE=0" (R29). -/
def setSuccess (S : OtpState) : OtpState := { S with ok := true, err := false, errCode := 0#4 }

/-- "failure with code E gives OK=0, ERR=1, ERRCODE=E" (R29). -/
def setFailure (E : Failure) (S : OtpState) : OtpState := { S with ok := false, err := true, errCode := E.code }

end Sys2Proof.Machine
end

