-- ==== Sys2Proof/Machine/Operands.lean ====
section
/-! DEFINITION. How registers are read and written by the host, and how a command assembles its operands
(spec/30_encoding.md R99, spec/40_host_access.md R120 to R125). -/

namespace Sys2Proof.Machine

/-! ## The halves of the 64-bit registers (R25, R26, R68: the lower index is the less significant half) -/

/-- `v[31:0]`. -/
def loHalf (v : DWord) : Word := v.extractLsb' 0 32

/-- `v[63:32]`. -/
def hiHalf (v : DWord) : Word := v.extractLsb' 32 32

/-- `hi ++ lo`. -/
def joinHalves (hi lo : Word) : DWord := hi ++ lo

/-! ## What a read returns (R120) -/

/-- COUNTER_LO. -/
def counterLo (S : OtpState) : Word := loHalf S.counter

/-- COUNTER_HI. -/
def counterHi (S : OtpState) : Word := hiHalf S.counter

/-- NOW_LO. -/
def nowLo (S : OtpState) : Word := loHalf S.now

/-- NOW_HI. -/
def nowHi (S : OtpState) : Word := hiHalf S.now

/-- KEY_LEN, `zext_32(S.KEY_LEN)` (R34). -/
def keyLenWord (S : OtpState) : Word := BitVec.ofNat 32 S.keyLen

/-- CODE_LEN, `zext_32(S.CODE_LEN)` (R35). -/
def codeLenWord (S : OtpState) : Word := BitVec.ofNat 32 S.codeLen

/-- CODEi, `zext_32(S.CODE[i])` (R38, R131). -/
def codeChar (i : Fin 10) (S : OtpState) : Word := (S.code[i]).setWidth 32

/-! ## What a write of an operand register does (R121 to R125) -/

/-- `S.DIGITS <- v` (R122). -/
def setDigits (v : Word) (S : OtpState) : OtpState := { S with digits := v }

/-- `S.WINDOW <- v` (R123). -/
def setWindow (v : Word) (S : OtpState) : OtpState := { S with window := v }

/-- `S.COUNTER <- S.COUNTER[63:32] ++ v` (R124). -/
def setCounterLo (v : Word) (S : OtpState) : OtpState := { S with counter := joinHalves (hiHalf S.counter) v }

/-- `S.COUNTER <- v ++ S.COUNTER[31:0]` (R124). -/
def setCounterHi (v : Word) (S : OtpState) : OtpState := { S with counter := joinHalves v (loHalf S.counter) }

/-- `S.NOW <- S.NOW[63:32] ++ v` (R125). -/
def setNowLo (v : Word) (S : OtpState) : OtpState := { S with now := joinHalves (hiHalf S.now) v }

/-- `S.NOW <- v ++ S.NOW[31:0]` (R125). -/
def setNowHi (v : Word) (S : OtpState) : OtpState := { S with now := joinHalves v (loHalf S.now) }

/-! ## The operands of a command (R99) -/

/-- `key = S.KEY[0 : S.KEY_LEN]`, in the order the bytes were pushed (R36). -/
def keyOperand (S : OtpState) : List Byte := S.key.take S.keyLen

/-- `digits`, 32-bit unsigned, not truncated. -/
def digitsOperand (S : OtpState) : Nat := S.digits.toNat

/-- `window_seconds`, 32-bit unsigned, not truncated. -/
def windowOperand (S : OtpState) : Nat := S.window.toNat

/-- `now = signed64(S.NOW)`. -/
def nowOperand (S : OtpState) : Int := S.now.toInt

/-- The byte of a key push: `wdata[7:0]`; "`wdata[31:8]` is ignored". -/
def keyByte (v : Word) : Byte := v.extractLsb' 0 8

end Sys2Proof.Machine
end

