-- ==== Sys2Proof/Machine/Bytes.lean ====
section
/-! DEFINITION. Byte order, rotation and text characters (spec/00_scope.md R10, R11, R13). -/

namespace Sys2Proof.Machine

/-- `be_bytes_n(v)`: byte `i` is `(v >> (8*(n-1-i))) & 0xFF`, the most significant first (R10). -/
def beBytes (n v : Nat) : List Byte :=
  (List.range n).map fun i => BitVec.ofNat 8 (v >>> (8 * (n - 1 - i)))

/-- `be_uint(s)`: the number whose base-256 digits are the bytes of `s`, the most significant first (R10). -/
def beUint (s : List Byte) : Nat := s.foldl (fun acc b => acc * 256 + b.toNat) 0

/-- `rotl32(x, n)`, 0 < n < 32 (R11). -/
def rotl32 (x : Word) (n : Nat) : Word := (x <<< n) ||| (x >>> (32 - n))

/-- `s[i:j]`, with `j` exclusive (R9). -/
def slice (s : List Byte) (i j : Nat) : List Byte := (s.drop i).take (j - i)

/-- `s[i]` of a byte sequence (R9). -/
def byteAt (s : List Byte) (i : Nat) : Byte := s.getD i 0#8

/-- `chr(d)`, the byte `0x30 + d` (R13). -/
def chr (d : Nat) : Byte := BitVec.ofNat 8 (0x30 + d)

end Sys2Proof.Machine
end

