-- ==== Sys2Proof/Machine/Sha1.lean ====
section
/-! DEFINITION. The byte encoder, SHA-1 and HMAC-SHA1 (spec/41_encoder_hmac_sha1.md R140 to R156). -/

namespace Sys2Proof.Machine

/-- `encode(c)`: exactly 8 bytes, big-endian, all 64 bits of the counter (R140, R141). -/
def encodeCounter (c : DWord) : List Byte := beBytes 8 c.toNat

/-! ## SHA-1 -/

/-- `k = (55 - n) mod 64` "taken in 0..63": how many zero bytes the padding has (R143). -/
def padZeros (n : Nat) : Nat := (119 - n % 64) % 64

/-- `pad(m) = m || 0x80 || z || be_bytes_8(8 * n)` (R143). The length field is taken modulo 2^64, as R142's domain and D30 of
spec/92_eei_decisions.md allow. -/
def pad (m : List Byte) : List Byte :=
  m ++ [0x80#8] ++ List.replicate (padZeros m.length) 0#8 ++ beBytes 8 (8 * m.length)

/-- `M_i = pad(m)[64*i : 64*i + 64]` (R144). -/
def block (p : List Byte) (i : Nat) : List Byte := slice p (64 * i) (64 * i + 64)

/-- The sixteen words of a block, each four bytes, the most significant first (R144). -/
def blockWords (b : List Byte) : List Word :=
  (List.range 16).map fun t => BitVec.ofNat 32 (beUint (slice b (4 * t) (4 * t + 4)))

/-- The next word of the schedule, from the earlier ones with the latest first: `rotl32(W[t-3] xor W[t-8] xor W[t-14] xor W[t-16], 1)`
(R146). -/
def nextScheduleWord (latest : List Word) : Word :=
  rotl32 (latest.getD 2 0#32 ^^^ latest.getD 7 0#32 ^^^ latest.getD 13 0#32 ^^^ latest.getD 15 0#32) 1

/-- `n` more words of the schedule, put in front of the earlier ones. -/
def extendSchedule : Nat → List Word → List Word
  | 0, latest => latest
  | n + 1, latest => extendSchedule n (nextScheduleWord latest :: latest)

/-- The eighty words `W[0..79]` of a block (R146). -/
def schedule (b : List Byte) : List Word := (extendSchedule 64 (blockWords b).reverse).reverse

/-- Five 32-bit words: a hash value (R145), or the working variables of a compression (R148). -/
structure HashValue where
  a : Word
  b : Word
  c : Word
  d : Word
  e : Word
  deriving DecidableEq, Repr

/-- The initial hash value (R145). -/
def initialHash : HashValue where
  a := 0x67452301#32
  b := 0xEFCDAB89#32
  c := 0x98BADCFE#32
  d := 0x10325476#32
  e := 0xC3D2E1F0#32

/-- `f(t, b, c, d)` (R147). -/
def roundF (t : Nat) (b c d : Word) : Word :=
  if t < 20 then (b &&& c) ||| (~~~b &&& d)
  else if t < 40 then b ^^^ c ^^^ d
  else if t < 60 then (b &&& c) ||| (b &&& d) ||| (c &&& d)
  else b ^^^ c ^^^ d

/-- `K(t)` (R147). -/
def roundK (t : Nat) : Word :=
  if t < 20 then 0x5A827999#32
  else if t < 40 then 0x6ED9EBA1#32
  else if t < 60 then 0x8F1BBCDC#32
  else 0xCA62C1D6#32

/-- Round `t` with the schedule word `w`; the new values come from the values before the round (R148). -/
def round (t : Nat) (w : Word) (v : HashValue) : HashValue where
  a := rotl32 v.a 5 + roundF t v.b v.c v.d + v.e + roundK t + w
  b := v.a
  c := rotl32 v.b 30
  d := v.c
  e := v.d

/-- The rounds of the schedule words `ws`, numbered from `t` on. -/
def rounds : Nat → List Word → HashValue → HashValue
  | _, [], v => v
  | t, w :: ws, v => rounds (t + 1) ws (round t w v)

/-- Word by word addition modulo 2^32, the last line of R148. -/
def HashValue.add (h v : HashValue) : HashValue where
  a := h.a + v.a
  b := h.b + v.b
  c := h.c + v.c
  d := h.d + v.d
  e := h.e + v.e

/-- Compression of one block into the hash value (R148). -/
def compress (h : HashValue) (w : List Word) : HashValue := h.add (rounds 0 w h)

/-- The hash value after the blocks 0 to `n - 1` of a padded message, in order (R148). -/
def hashBlocks (p : List Byte) (n : Nat) : HashValue :=
  (List.range n).foldl (fun h i => compress h (schedule (block p i))) initialHash

/-- The 20 bytes of a hash value, H0's most significant byte first (R149). -/
def digestBytes (h : HashValue) : List Byte :=
  beBytes 4 h.a.toNat ++ beBytes 4 h.b.toNat ++ beBytes 4 h.c.toNat ++ beBytes 4 h.d.toNat ++ beBytes 4 h.e.toNat

/-- `N = floor((n + 8) / 64) + 1`, the number of blocks of a message of `n` bytes (R143). -/
def blockCount (n : Nat) : Nat := (n + 8) / 64 + 1

/-- `sha1(m)` (R142): pad, split, initialise, compress each block in order, output. -/
def sha1 (m : List Byte) : List Byte := digestBytes (hashBlocks (pad m) (blockCount m.length))

/-! ## HMAC-SHA1 -/

/-- `k'`: the key, replaced by its digest when it is longer than one block; "A key of exactly 64 bytes is used as it is" (R151). -/
def shortKey (k : List Byte) : List Byte := if k.length > Config.blockBytes then sha1 k else k

/-- `K0 = k' || (64 - len(k'))` bytes of 0x00 (R151). -/
def blockKey (k : List Byte) : List Byte :=
  shortKey k ++ List.replicate (Config.blockBytes - (shortKey k).length) 0#8

/-- A key block with every byte xored with `p` (R152). -/
def xorPad (p : Byte) (k0 : List Byte) : List Byte := k0.map (· ^^^ p)

/-- `hmac_sha1(k, text)` (R152). -/
def hmacSha1 (k text : List Byte) : List Byte :=
  sha1 (xorPad 0x5C#8 (blockKey k) ++ sha1 (xorPad 0x36#8 (blockKey k) ++ text))

end Sys2Proof.Machine
end

