-- ==== Sys2Proof/Machine/Truncate.lean ====
section
/-! DEFINITION. Dynamic truncation, the decimal formatter, the HOTP function and the time-to-counter scaler
(spec/42_hotp.md R170 to R176, spec/43_totp.md R200). -/

namespace Sys2Proof.Machine

/-- `dt_offset(mac) = mac[19] & 0x0F` (R170). -/
def dtOffset (mac : List Byte) : Nat := (byteAt mac 19 &&& 0x0F#8).toNat

/-- `dt_value(mac)`: the four bytes at the offset, big-endian, the top bit cleared (R171). -/
def dtValue (mac : List Byte) : Nat :=
  beUint [byteAt mac (dtOffset mac), byteAt mac (dtOffset mac + 1), byteAt mac (dtOffset mac + 2), byteAt mac (dtOffset mac + 3)]
    &&& 0x7FFFFFFF

/-- `reduce(value, d) = value mod 10^d`, over the integers (R173). -/
def reduce (value d : Nat) : Nat := value % 10 ^ d

/-- `format(code, d)[i] = chr(floor(code / 10^(d-1-i)) mod 10)`, `i` = 0 to `d - 1` (R174). -/
def formatCode (code d : Nat) : List Byte :=
  (List.range d).map fun i => chr (code / 10 ^ (d - 1 - i) % 10)

/-- The MAC of a counter under a key, steps 1 and 2 of `hotp_fn` (R176). -/
def hotpMac (key : List Byte) (c : DWord) : List Byte := hmacSha1 key (encodeCounter c)

/-- The first result of `hotp_fn`: the code value (R176). -/
def hotpCode (key : List Byte) (c : DWord) (d : Nat) : Nat := reduce (dtValue (hotpMac key c)) d

/-- `hotp_fn(key, c, d)`: the code value and the code string (R176). -/
def hotpFn (key : List Byte) (c : DWord) (d : Nat) : Nat × List Byte :=
  (hotpCode key c d, formatCode (hotpCode key c d) d)

/-- `tscale(now, w) = floor(now / w)`, for `now >= 0` and `w >= 1` (R200). -/
def tscale (now w : Nat) : Nat := now / w

end Sys2Proof.Machine
end

