-- ==== Sys2Proof/Machine/Ops.lean ====
section
/-! DEFINITION. The shared operations: the two completions of a transaction, the key and code buffers, the draw of `time_in`, the
validation and the error completion of a call, its success, reset, and taking the next host event. -/

namespace Sys2Proof.Machine

/-! ## How a transaction ends (spec/20_memory.md R62) -/

/-- A `RegRead` "returns a 32-bit value and may change no state". -/
def State.completeRead (s : State) (v : Word) : State := { s with response := some v }

/-- A `RegWrite` "returns nothing and changes state as the rule of that register says": the record becomes `S`. -/
def State.completeWrite (s : State) (S : OtpState) : State := { s with otp := S, response := none }

/-! ## The key buffer and the code buffer (spec/10_state.md R36 to R39) -/

/-- `clear_key` (R37). -/
def clearKey (keyMax : Nat) (S : OtpState) : OtpState :=
  { S with key := List.replicate keyMax 0#8, keyLen := 0, keyOvf := false }

/-- `clear_code` (R39). -/
def clearCode (S : OtpState) : OtpState :=
  { S with code := Vector.replicate 10 0#8, codeLen := 0, codeVal := 0#32 }

/-- `key_push(b)` (spec/40_host_access.md R127). -/
def keyPush (keyMax : Nat) (b : Byte) (S : OtpState) : OtpState :=
  if S.keyLen < keyMax then { S with key := S.key.set S.keyLen b, keyLen := S.keyLen + 1 }
  else { S with keyOvf := true }

/-- The ten bytes of CODE that hold a string of at most ten characters: its characters, then 0x00 (spec/42_hotp.md R179). -/
def codeBytes (str : List Byte) : Vector Byte 10 :=
  #v[byteAt str 0, byteAt str 1, byteAt str 2, byteAt str 3, byteAt str 4,
    byteAt str 5, byteAt str 6, byteAt str 7, byteAt str 8, byteAt str 9]

/-- CODE, CODE_LEN and CODE_VAL take a code of `d` characters (R179). -/
def storeCode (code : Nat) (str : List Byte) (d : Nat) (S : OtpState) : OtpState :=
  { S with code := codeBytes str, codeLen := d, codeVal := BitVec.ofNat 32 code }

/-! ## The `time_in` input (spec/60_exceptions.md R245) -/

/-- `draw time_in`: the value the platform drives at this draw, else the free value of this draw. -/
def State.drawnTime (s : State) : DWord :=
  match s.timeIn with
  | t :: _ => t
  | [] => Config.timeIn s.draws

/-- The state after a draw. -/
def State.afterDraw (s : State) : State := { s with timeIn := s.timeIn.tail, draws := s.draws + 1 }

/-! ## The hardware's exception: the error completion of a command (spec/60_exceptions.md R236)

"This is the whole of trap entry: nothing is saved because nothing is interrupted; no mode changes". There is no return beside it:
"There is no return instruction and nothing to restore" (R238). -/

/-- `fail(E)` of a HOTP or TOTP command: no code, no key, ERR and the failure's code (R236). -/
def failCall (keyMax : Nat) (E : Failure) (S : OtpState) : OtpState :=
  setFailure E (clearKey keyMax (clearCode S))

/-- `fail_illegal`: "For an illegal command word, E = 3, only the last line runs" (R236, spec/44_system.md R222). -/
def failIllegal (S : OtpState) : OtpState := setFailure .illegalCommand S

/-! ## The four commands on the record `S` -/

/-- `validate_hotp` (R178): the failure, if one applies, the first that does. -/
def validateHotp (S : OtpState) : Option Failure :=
  if digitsOperand S = 0 then some .invalidArgument
  else if digitsOperand S > Config.digitsMax then some .invalidArgument
  else if S.keyOvf then some .keyTooLong
  else none

/-- `validate_totp` (R203). -/
def validateTotp (S : OtpState) : Option Failure :=
  if digitsOperand S = 0 then some .invalidArgument
  else if digitsOperand S > Config.digitsMax then some .invalidArgument
  else if windowOperand S = 0 then some .invalidArgument
  else if nowOperand S < 0 then some .invalidArgument
  else if S.keyOvf then some .keyTooLong
  else none

/-- The success of a call with the counter `c` (the pass branches of R179 and R205 from `hotp_fn` on). -/
def succeedCall (keyMax : Nat) (c : DWord) (S : OtpState) : OtpState :=
  setSuccess (clearKey keyMax
    (storeCode (hotpFn (keyOperand S) c (digitsOperand S)).1 (hotpFn (keyOperand S) c (digitsOperand S)).2 (digitsOperand S) S))

/-- `do_hotp` (R179). -/
def doHotp (keyMax : Nat) (S : OtpState) : OtpState :=
  match validateHotp S with
  | some E => failCall keyMax E S
  | none => succeedCall keyMax S.counter S

/-- The counter TOTP derives: `zext_64(tscale(signed64(S.NOW), S.WINDOW))` (R205). -/
def totpCounter (S : OtpState) : DWord := BitVec.ofNat 64 (tscale (nowOperand S).toNat (windowOperand S))

/-- `do_totp` (R205). -/
def doTotp (keyMax : Nat) (S : OtpState) : OtpState :=
  match validateTotp S with
  | some E => failCall keyMax E S
  | none => succeedCall keyMax (totpCounter S) { S with counter := totpCounter S }

/-- `do_ldtime` with the drawn value `t`: "all 64 bits at once" (R208). -/
def doLdtime (t : DWord) (S : OtpState) : OtpState := setSuccess { S with now := t }

/-- `do_clear` (R220). -/
def doClear (keyMax : Nat) (S : OtpState) : OtpState := setSuccess (clearCode (clearKey keyMax S))

/-! ## Reset and the host's next event -/

/-- The reset event: "every field of `S` takes its reset value" (R260). What the host and the platform will do is theirs and stays. -/
def State.resetEvent (s : State) : State := s.completeWrite (OtpState.reset s.keyMax.bytes)

/-- The next event, and the state in which it is taken from the queue; none while the host is idle. -/
def State.takeEvent (s : State) : Option (HostEvent × State) :=
  match s.inputs with
  | [] => none
  | e :: rest => some (e, { s with inputs := rest })

/-- The state with one more event, which comes before all that wait. -/
def State.putEvent (s : State) (e : HostEvent) : State := { s with inputs := e :: s.inputs }

end Sys2Proof.Machine
end

