-- ==== Sys2Proof/Machine/Commands.lean ====
section
/-! DEFINITION. The meanings of the four commands (spec/42_hotp.md R179, spec/43_totp.md R205 and R208, spec/44_system.md R220) and of
`WR CMD` (spec/40_host_access.md R126), each one indivisible step (spec/20_memory.md R70). -/

namespace Sys2Proof.Machine

/-- HOTP, the write of 0x00000001 to CMD (R177, R179). -/
def execHotp (s : State) : Host.Outcome State Fault Refusal :=
  .next (s.completeWrite (doHotp s.keyMax.bytes s.otp))

/-- TOTP, the write of 0x00000002 to CMD (R202, R205). -/
def execTotp (s : State) : Host.Outcome State Fault Refusal :=
  .next (s.completeWrite (doTotp s.keyMax.bytes s.otp))

/-- LDTIME, the write of 0x00000003 to CMD: NOW takes a fresh draw of `time_in` (R208). -/
def execLdtime (s : State) : Host.Outcome State Fault Refusal :=
  .next (s.afterDraw.completeWrite (doLdtime s.drawnTime s.otp))

/-- CLEAR, the write of 0x00000004 to CMD (R220). -/
def execClear (s : State) : Host.Outcome State Fault Refusal :=
  .next (s.completeWrite (doClear s.keyMax.bytes s.otp))

/-- `exec_cmd` (R126) on the state. -/
def runCmd (c : Cmd) (s : State) : State :=
  match c with
  | .hotp => s.completeWrite (doHotp s.keyMax.bytes s.otp)
  | .totp => s.completeWrite (doTotp s.keyMax.bytes s.otp)
  | .ldtime => s.afterDraw.completeWrite (doLdtime s.drawnTime s.otp)
  | .clear => s.completeWrite (doClear s.keyMax.bytes s.otp)
  | .illegal => s.completeWrite (failIllegal s.otp)

/-- `WR CMD, w` "runs the command `w` encodes, as one indivisible step, and stores nothing" (R126). -/
def execWrCmd (v : Word) (s : State) : Host.Outcome State Fault Refusal :=
  .next (runCmd (decodeCmd v) s)

end Sys2Proof.Machine
end

