-- ==== Sys2Proof/Machine/Illegal.lean ====
section
/-! DEFINITION. The meanings of the 40 rows of illegal command words (spec/44_system.md R222): the ILLEGAL_COMMAND failure, after which
the machine goes on. -/

namespace Sys2Proof.Machine

/-- Command word 0x00000000, an unassigned opcode: ILLEGAL_COMMAND (R222). -/
def execIllegalOpc0 (s : State) : Host.Outcome State Fault Refusal :=
  .next (s.completeWrite (failIllegal s.otp))

/-- Command word 0x00000005, an unassigned opcode: ILLEGAL_COMMAND (R222). -/
def execIllegalOpc5 (s : State) : Host.Outcome State Fault Refusal :=
  .next (s.completeWrite (failIllegal s.otp))

/-- Command word 0x00000006, an unassigned opcode: ILLEGAL_COMMAND (R222). -/
def execIllegalOpc6 (s : State) : Host.Outcome State Fault Refusal :=
  .next (s.completeWrite (failIllegal s.otp))

/-- Command word 0x00000007, an unassigned opcode: ILLEGAL_COMMAND (R222). -/
def execIllegalOpc7 (s : State) : Host.Outcome State Fault Refusal :=
  .next (s.completeWrite (failIllegal s.otp))

/-- Command word 0x00000008, an unassigned opcode: ILLEGAL_COMMAND (R222). -/
def execIllegalOpc8 (s : State) : Host.Outcome State Fault Refusal :=
  .next (s.completeWrite (failIllegal s.otp))

/-- Command word 0x00000009, an unassigned opcode: ILLEGAL_COMMAND (R222). -/
def execIllegalOpc9 (s : State) : Host.Outcome State Fault Refusal :=
  .next (s.completeWrite (failIllegal s.otp))

/-- Command word 0x0000000a, an unassigned opcode: ILLEGAL_COMMAND (R222). -/
def execIllegalOpc10 (s : State) : Host.Outcome State Fault Refusal :=
  .next (s.completeWrite (failIllegal s.otp))

/-- Command word 0x0000000b, an unassigned opcode: ILLEGAL_COMMAND (R222). -/
def execIllegalOpc11 (s : State) : Host.Outcome State Fault Refusal :=
  .next (s.completeWrite (failIllegal s.otp))

/-- Command word 0x0000000c, an unassigned opcode: ILLEGAL_COMMAND (R222). -/
def execIllegalOpc12 (s : State) : Host.Outcome State Fault Refusal :=
  .next (s.completeWrite (failIllegal s.otp))

/-- Command word 0x0000000d, an unassigned opcode: ILLEGAL_COMMAND (R222). -/
def execIllegalOpc13 (s : State) : Host.Outcome State Fault Refusal :=
  .next (s.completeWrite (failIllegal s.otp))

/-- Command word 0x0000000e, an unassigned opcode: ILLEGAL_COMMAND (R222). -/
def execIllegalOpc14 (s : State) : Host.Outcome State Fault Refusal :=
  .next (s.completeWrite (failIllegal s.otp))

/-- Command word 0x0000000f, an unassigned opcode: ILLEGAL_COMMAND (R222). -/
def execIllegalOpc15 (s : State) : Host.Outcome State Fault Refusal :=
  .next (s.completeWrite (failIllegal s.otp))

/-- A command word with reserved bit 4 set: ILLEGAL_COMMAND; "The word `w` is not recorded anywhere" (R222). -/
def execIllegalRsvd4 (_w : Word) (s : State) : Host.Outcome State Fault Refusal :=
  .next (s.completeWrite (failIllegal s.otp))

/-- A command word with reserved bit 5 set: ILLEGAL_COMMAND; "The word `w` is not recorded anywhere" (R222). -/
def execIllegalRsvd5 (_w : Word) (s : State) : Host.Outcome State Fault Refusal :=
  .next (s.completeWrite (failIllegal s.otp))

/-- A command word with reserved bit 6 set: ILLEGAL_COMMAND; "The word `w` is not recorded anywhere" (R222). -/
def execIllegalRsvd6 (_w : Word) (s : State) : Host.Outcome State Fault Refusal :=
  .next (s.completeWrite (failIllegal s.otp))

/-- A command word with reserved bit 7 set: ILLEGAL_COMMAND; "The word `w` is not recorded anywhere" (R222). -/
def execIllegalRsvd7 (_w : Word) (s : State) : Host.Outcome State Fault Refusal :=
  .next (s.completeWrite (failIllegal s.otp))

/-- A command word with reserved bit 8 set: ILLEGAL_COMMAND; "The word `w` is not recorded anywhere" (R222). -/
def execIllegalRsvd8 (_w : Word) (s : State) : Host.Outcome State Fault Refusal :=
  .next (s.completeWrite (failIllegal s.otp))

/-- A command word with reserved bit 9 set: ILLEGAL_COMMAND; "The word `w` is not recorded anywhere" (R222). -/
def execIllegalRsvd9 (_w : Word) (s : State) : Host.Outcome State Fault Refusal :=
  .next (s.completeWrite (failIllegal s.otp))

/-- A command word with reserved bit 10 set: ILLEGAL_COMMAND; "The word `w` is not recorded anywhere" (R222). -/
def execIllegalRsvd10 (_w : Word) (s : State) : Host.Outcome State Fault Refusal :=
  .next (s.completeWrite (failIllegal s.otp))

/-- A command word with reserved bit 11 set: ILLEGAL_COMMAND; "The word `w` is not recorded anywhere" (R222). -/
def execIllegalRsvd11 (_w : Word) (s : State) : Host.Outcome State Fault Refusal :=
  .next (s.completeWrite (failIllegal s.otp))

/-- A command word with reserved bit 12 set: ILLEGAL_COMMAND; "The word `w` is not recorded anywhere" (R222). -/
def execIllegalRsvd12 (_w : Word) (s : State) : Host.Outcome State Fault Refusal :=
  .next (s.completeWrite (failIllegal s.otp))

/-- A command word with reserved bit 13 set: ILLEGAL_COMMAND; "The word `w` is not recorded anywhere" (R222). -/
def execIllegalRsvd13 (_w : Word) (s : State) : Host.Outcome State Fault Refusal :=
  .next (s.completeWrite (failIllegal s.otp))

/-- A command word with reserved bit 14 set: ILLEGAL_COMMAND; "The word `w` is not recorded anywhere" (R222). -/
def execIllegalRsvd14 (_w : Word) (s : State) : Host.Outcome State Fault Refusal :=
  .next (s.completeWrite (failIllegal s.otp))

/-- A command word with reserved bit 15 set: ILLEGAL_COMMAND; "The word `w` is not recorded anywhere" (R222). -/
def execIllegalRsvd15 (_w : Word) (s : State) : Host.Outcome State Fault Refusal :=
  .next (s.completeWrite (failIllegal s.otp))

/-- A command word with reserved bit 16 set: ILLEGAL_COMMAND; "The word `w` is not recorded anywhere" (R222). -/
def execIllegalRsvd16 (_w : Word) (s : State) : Host.Outcome State Fault Refusal :=
  .next (s.completeWrite (failIllegal s.otp))

/-- A command word with reserved bit 17 set: ILLEGAL_COMMAND; "The word `w` is not recorded anywhere" (R222). -/
def execIllegalRsvd17 (_w : Word) (s : State) : Host.Outcome State Fault Refusal :=
  .next (s.completeWrite (failIllegal s.otp))

/-- A command word with reserved bit 18 set: ILLEGAL_COMMAND; "The word `w` is not recorded anywhere" (R222). -/
def execIllegalRsvd18 (_w : Word) (s : State) : Host.Outcome State Fault Refusal :=
  .next (s.completeWrite (failIllegal s.otp))

/-- A command word with reserved bit 19 set: ILLEGAL_COMMAND; "The word `w` is not recorded anywhere" (R222). -/
def execIllegalRsvd19 (_w : Word) (s : State) : Host.Outcome State Fault Refusal :=
  .next (s.completeWrite (failIllegal s.otp))

/-- A command word with reserved bit 20 set: ILLEGAL_COMMAND; "The word `w` is not recorded anywhere" (R222). -/
def execIllegalRsvd20 (_w : Word) (s : State) : Host.Outcome State Fault Refusal :=
  .next (s.completeWrite (failIllegal s.otp))

/-- A command word with reserved bit 21 set: ILLEGAL_COMMAND; "The word `w` is not recorded anywhere" (R222). -/
def execIllegalRsvd21 (_w : Word) (s : State) : Host.Outcome State Fault Refusal :=
  .next (s.completeWrite (failIllegal s.otp))

/-- A command word with reserved bit 22 set: ILLEGAL_COMMAND; "The word `w` is not recorded anywhere" (R222). -/
def execIllegalRsvd22 (_w : Word) (s : State) : Host.Outcome State Fault Refusal :=
  .next (s.completeWrite (failIllegal s.otp))

/-- A command word with reserved bit 23 set: ILLEGAL_COMMAND; "The word `w` is not recorded anywhere" (R222). -/
def execIllegalRsvd23 (_w : Word) (s : State) : Host.Outcome State Fault Refusal :=
  .next (s.completeWrite (failIllegal s.otp))

/-- A command word with reserved bit 24 set: ILLEGAL_COMMAND; "The word `w` is not recorded anywhere" (R222). -/
def execIllegalRsvd24 (_w : Word) (s : State) : Host.Outcome State Fault Refusal :=
  .next (s.completeWrite (failIllegal s.otp))

/-- A command word with reserved bit 25 set: ILLEGAL_COMMAND; "The word `w` is not recorded anywhere" (R222). -/
def execIllegalRsvd25 (_w : Word) (s : State) : Host.Outcome State Fault Refusal :=
  .next (s.completeWrite (failIllegal s.otp))

/-- A command word with reserved bit 26 set: ILLEGAL_COMMAND; "The word `w` is not recorded anywhere" (R222). -/
def execIllegalRsvd26 (_w : Word) (s : State) : Host.Outcome State Fault Refusal :=
  .next (s.completeWrite (failIllegal s.otp))

/-- A command word with reserved bit 27 set: ILLEGAL_COMMAND; "The word `w` is not recorded anywhere" (R222). -/
def execIllegalRsvd27 (_w : Word) (s : State) : Host.Outcome State Fault Refusal :=
  .next (s.completeWrite (failIllegal s.otp))

/-- A command word with reserved bit 28 set: ILLEGAL_COMMAND; "The word `w` is not recorded anywhere" (R222). -/
def execIllegalRsvd28 (_w : Word) (s : State) : Host.Outcome State Fault Refusal :=
  .next (s.completeWrite (failIllegal s.otp))

/-- A command word with reserved bit 29 set: ILLEGAL_COMMAND; "The word `w` is not recorded anywhere" (R222). -/
def execIllegalRsvd29 (_w : Word) (s : State) : Host.Outcome State Fault Refusal :=
  .next (s.completeWrite (failIllegal s.otp))

/-- A command word with reserved bit 30 set: ILLEGAL_COMMAND; "The word `w` is not recorded anywhere" (R222). -/
def execIllegalRsvd30 (_w : Word) (s : State) : Host.Outcome State Fault Refusal :=
  .next (s.completeWrite (failIllegal s.otp))

/-- A command word with reserved bit 31 set: ILLEGAL_COMMAND; "The word `w` is not recorded anywhere" (R222). -/
def execIllegalRsvd31 (_w : Word) (s : State) : Host.Outcome State Fault Refusal :=
  .next (s.completeWrite (failIllegal s.otp))

end Sys2Proof.Machine
end

