-- ==== Sys2Proof/Machine/Reads.lean ====
section
/-! DEFINITION. The meanings of the 64 reads `RD <reg>` (spec/40_host_access.md R120, R122 to R132). "A read never changes `S`,
whatever the index" (R120); what it returns goes to the port's response. -/

namespace Sys2Proof.Machine

/-- `RD CMD` (idx 0): a write-only register "returns 0 and does nothing" (R126). -/
def execRdCmd (s : State) : Host.Outcome State Fault Refusal :=
  .next (s.completeRead 0#32)

/-- `RD STATUS` (idx 1) returns the register (R128). -/
def execRdStatus (s : State) : Host.Outcome State Fault Refusal :=
  .next (s.completeRead (statusWord s.otp))

/-- `RD DIGITS` (idx 2) returns the register (R122). -/
def execRdDigits (s : State) : Host.Outcome State Fault Refusal :=
  .next (s.completeRead s.otp.digits)

/-- `RD WINDOW` (idx 3) returns the register (R123). -/
def execRdWindow (s : State) : Host.Outcome State Fault Refusal :=
  .next (s.completeRead s.otp.window)

/-- `RD COUNTER_LO` (idx 4) returns the register (R124). -/
def execRdCounterLo (s : State) : Host.Outcome State Fault Refusal :=
  .next (s.completeRead (counterLo s.otp))

/-- `RD COUNTER_HI` (idx 5) returns the register (R124). -/
def execRdCounterHi (s : State) : Host.Outcome State Fault Refusal :=
  .next (s.completeRead (counterHi s.otp))

/-- `RD NOW_LO` (idx 6) returns the register (R125). -/
def execRdNowLo (s : State) : Host.Outcome State Fault Refusal :=
  .next (s.completeRead (nowLo s.otp))

/-- `RD NOW_HI` (idx 7) returns the register (R125). -/
def execRdNowHi (s : State) : Host.Outcome State Fault Refusal :=
  .next (s.completeRead (nowHi s.otp))

/-- `RD KEY_PUSH` (idx 8): a write-only register "returns 0 and does nothing" (R127). -/
def execRdKeyPush (s : State) : Host.Outcome State Fault Refusal :=
  .next (s.completeRead 0#32)

/-- `RD KEY_LEN` (idx 9) returns the register (R129). -/
def execRdKeyLen (s : State) : Host.Outcome State Fault Refusal :=
  .next (s.completeRead (keyLenWord s.otp))

/-- `RD CODE_LEN` (idx 10) returns the register (R130). -/
def execRdCodeLen (s : State) : Host.Outcome State Fault Refusal :=
  .next (s.completeRead (codeLenWord s.otp))

/-- `RD CODE_VAL` (idx 11) returns the register (R130). -/
def execRdCodeVal (s : State) : Host.Outcome State Fault Refusal :=
  .next (s.completeRead s.otp.codeVal)

/-- `RD #12`: a reserved slot reads as zero (R132). -/
def execRdSlot12 (s : State) : Host.Outcome State Fault Refusal :=
  .next (s.completeRead 0#32)

/-- `RD #13`: a reserved slot reads as zero (R132). -/
def execRdSlot13 (s : State) : Host.Outcome State Fault Refusal :=
  .next (s.completeRead 0#32)

/-- `RD #14`: a reserved slot reads as zero (R132). -/
def execRdSlot14 (s : State) : Host.Outcome State Fault Refusal :=
  .next (s.completeRead 0#32)

/-- `RD #15`: a reserved slot reads as zero (R132). -/
def execRdSlot15 (s : State) : Host.Outcome State Fault Refusal :=
  .next (s.completeRead 0#32)

/-- `RD CODE0` (idx 16) returns the register (R131). -/
def execRdCode0 (s : State) : Host.Outcome State Fault Refusal :=
  .next (s.completeRead (codeChar 0 s.otp))

/-- `RD CODE1` (idx 17) returns the register (R131). -/
def execRdCode1 (s : State) : Host.Outcome State Fault Refusal :=
  .next (s.completeRead (codeChar 1 s.otp))

/-- `RD CODE2` (idx 18) returns the register (R131). -/
def execRdCode2 (s : State) : Host.Outcome State Fault Refusal :=
  .next (s.completeRead (codeChar 2 s.otp))

/-- `RD CODE3` (idx 19) returns the register (R131). -/
def execRdCode3 (s : State) : Host.Outcome State Fault Refusal :=
  .next (s.completeRead (codeChar 3 s.otp))

/-- `RD CODE4` (idx 20) returns the register (R131). -/
def execRdCode4 (s : State) : Host.Outcome State Fault Refusal :=
  .next (s.completeRead (codeChar 4 s.otp))

/-- `RD CODE5` (idx 21) returns the register (R131). -/
def execRdCode5 (s : State) : Host.Outcome State Fault Refusal :=
  .next (s.completeRead (codeChar 5 s.otp))

/-- `RD CODE6` (idx 22) returns the register (R131). -/
def execRdCode6 (s : State) : Host.Outcome State Fault Refusal :=
  .next (s.completeRead (codeChar 6 s.otp))

/-- `RD CODE7` (idx 23) returns the register (R131). -/
def execRdCode7 (s : State) : Host.Outcome State Fault Refusal :=
  .next (s.completeRead (codeChar 7 s.otp))

/-- `RD CODE8` (idx 24) returns the register (R131). -/
def execRdCode8 (s : State) : Host.Outcome State Fault Refusal :=
  .next (s.completeRead (codeChar 8 s.otp))

/-- `RD CODE9` (idx 25) returns the register (R131). -/
def execRdCode9 (s : State) : Host.Outcome State Fault Refusal :=
  .next (s.completeRead (codeChar 9 s.otp))

/-- `RD #26`: a reserved slot reads as zero (R132). -/
def execRdSlot26 (s : State) : Host.Outcome State Fault Refusal :=
  .next (s.completeRead 0#32)

/-- `RD #27`: a reserved slot reads as zero (R132). -/
def execRdSlot27 (s : State) : Host.Outcome State Fault Refusal :=
  .next (s.completeRead 0#32)

/-- `RD #28`: a reserved slot reads as zero (R132). -/
def execRdSlot28 (s : State) : Host.Outcome State Fault Refusal :=
  .next (s.completeRead 0#32)

/-- `RD #29`: a reserved slot reads as zero (R132). -/
def execRdSlot29 (s : State) : Host.Outcome State Fault Refusal :=
  .next (s.completeRead 0#32)

/-- `RD #30`: a reserved slot reads as zero (R132). -/
def execRdSlot30 (s : State) : Host.Outcome State Fault Refusal :=
  .next (s.completeRead 0#32)

/-- `RD #31`: a reserved slot reads as zero (R132). -/
def execRdSlot31 (s : State) : Host.Outcome State Fault Refusal :=
  .next (s.completeRead 0#32)

/-- `RD #32`: a reserved slot reads as zero (R132). -/
def execRdSlot32 (s : State) : Host.Outcome State Fault Refusal :=
  .next (s.completeRead 0#32)

/-- `RD #33`: a reserved slot reads as zero (R132). -/
def execRdSlot33 (s : State) : Host.Outcome State Fault Refusal :=
  .next (s.completeRead 0#32)

/-- `RD #34`: a reserved slot reads as zero (R132). -/
def execRdSlot34 (s : State) : Host.Outcome State Fault Refusal :=
  .next (s.completeRead 0#32)

/-- `RD #35`: a reserved slot reads as zero (R132). -/
def execRdSlot35 (s : State) : Host.Outcome State Fault Refusal :=
  .next (s.completeRead 0#32)

/-- `RD #36`: a reserved slot reads as zero (R132). -/
def execRdSlot36 (s : State) : Host.Outcome State Fault Refusal :=
  .next (s.completeRead 0#32)

/-- `RD #37`: a reserved slot reads as zero (R132). -/
def execRdSlot37 (s : State) : Host.Outcome State Fault Refusal :=
  .next (s.completeRead 0#32)

/-- `RD #38`: a reserved slot reads as zero (R132). -/
def execRdSlot38 (s : State) : Host.Outcome State Fault Refusal :=
  .next (s.completeRead 0#32)

/-- `RD #39`: a reserved slot reads as zero (R132). -/
def execRdSlot39 (s : State) : Host.Outcome State Fault Refusal :=
  .next (s.completeRead 0#32)

/-- `RD #40`: a reserved slot reads as zero (R132). -/
def execRdSlot40 (s : State) : Host.Outcome State Fault Refusal :=
  .next (s.completeRead 0#32)

/-- `RD #41`: a reserved slot reads as zero (R132). -/
def execRdSlot41 (s : State) : Host.Outcome State Fault Refusal :=
  .next (s.completeRead 0#32)

/-- `RD #42`: a reserved slot reads as zero (R132). -/
def execRdSlot42 (s : State) : Host.Outcome State Fault Refusal :=
  .next (s.completeRead 0#32)

/-- `RD #43`: a reserved slot reads as zero (R132). -/
def execRdSlot43 (s : State) : Host.Outcome State Fault Refusal :=
  .next (s.completeRead 0#32)

/-- `RD #44`: a reserved slot reads as zero (R132). -/
def execRdSlot44 (s : State) : Host.Outcome State Fault Refusal :=
  .next (s.completeRead 0#32)

/-- `RD #45`: a reserved slot reads as zero (R132). -/
def execRdSlot45 (s : State) : Host.Outcome State Fault Refusal :=
  .next (s.completeRead 0#32)

/-- `RD #46`: a reserved slot reads as zero (R132). -/
def execRdSlot46 (s : State) : Host.Outcome State Fault Refusal :=
  .next (s.completeRead 0#32)

/-- `RD #47`: a reserved slot reads as zero (R132). -/
def execRdSlot47 (s : State) : Host.Outcome State Fault Refusal :=
  .next (s.completeRead 0#32)

/-- `RD #48`: a reserved slot reads as zero (R132). -/
def execRdSlot48 (s : State) : Host.Outcome State Fault Refusal :=
  .next (s.completeRead 0#32)

/-- `RD #49`: a reserved slot reads as zero (R132). -/
def execRdSlot49 (s : State) : Host.Outcome State Fault Refusal :=
  .next (s.completeRead 0#32)

/-- `RD #50`: a reserved slot reads as zero (R132). -/
def execRdSlot50 (s : State) : Host.Outcome State Fault Refusal :=
  .next (s.completeRead 0#32)

/-- `RD #51`: a reserved slot reads as zero (R132). -/
def execRdSlot51 (s : State) : Host.Outcome State Fault Refusal :=
  .next (s.completeRead 0#32)

/-- `RD #52`: a reserved slot reads as zero (R132). -/
def execRdSlot52 (s : State) : Host.Outcome State Fault Refusal :=
  .next (s.completeRead 0#32)

/-- `RD #53`: a reserved slot reads as zero (R132). -/
def execRdSlot53 (s : State) : Host.Outcome State Fault Refusal :=
  .next (s.completeRead 0#32)

/-- `RD #54`: a reserved slot reads as zero (R132). -/
def execRdSlot54 (s : State) : Host.Outcome State Fault Refusal :=
  .next (s.completeRead 0#32)

/-- `RD #55`: a reserved slot reads as zero (R132). -/
def execRdSlot55 (s : State) : Host.Outcome State Fault Refusal :=
  .next (s.completeRead 0#32)

/-- `RD #56`: a reserved slot reads as zero (R132). -/
def execRdSlot56 (s : State) : Host.Outcome State Fault Refusal :=
  .next (s.completeRead 0#32)

/-- `RD #57`: a reserved slot reads as zero (R132). -/
def execRdSlot57 (s : State) : Host.Outcome State Fault Refusal :=
  .next (s.completeRead 0#32)

/-- `RD #58`: a reserved slot reads as zero (R132). -/
def execRdSlot58 (s : State) : Host.Outcome State Fault Refusal :=
  .next (s.completeRead 0#32)

/-- `RD #59`: a reserved slot reads as zero (R132). -/
def execRdSlot59 (s : State) : Host.Outcome State Fault Refusal :=
  .next (s.completeRead 0#32)

/-- `RD #60`: a reserved slot reads as zero (R132). -/
def execRdSlot60 (s : State) : Host.Outcome State Fault Refusal :=
  .next (s.completeRead 0#32)

/-- `RD #61`: a reserved slot reads as zero (R132). -/
def execRdSlot61 (s : State) : Host.Outcome State Fault Refusal :=
  .next (s.completeRead 0#32)

/-- `RD #62`: a reserved slot reads as zero (R132). -/
def execRdSlot62 (s : State) : Host.Outcome State Fault Refusal :=
  .next (s.completeRead 0#32)

/-- `RD #63`: a reserved slot reads as zero (R132). -/
def execRdSlot63 (s : State) : Host.Outcome State Fault Refusal :=
  .next (s.completeRead 0#32)

end Sys2Proof.Machine
end

