-- ==== Sys2Proof/Machine/Writes.lean ====
section
/-! DEFINITION. The meanings of the 63 writes `WR <reg>, v` other than `WR CMD` (spec/40_host_access.md R121 to R132). -/

namespace Sys2Proof.Machine

/-- `WR STATUS, v` (idx 1): a write to a read-only register "does nothing" (R132). -/
def execWrStatus (_v : Word) (s : State) : Host.Outcome State Fault Refusal :=
  .next (s.completeWrite s.otp)

/-- `WR DIGITS, v` (idx 2) stores all 32 bits, "any value accepted" (R122). -/
def execWrDigits (v : Word) (s : State) : Host.Outcome State Fault Refusal :=
  .next (s.completeWrite (setDigits v s.otp))

/-- `WR WINDOW, v` (idx 3) stores all 32 bits, "any value accepted" (R123). -/
def execWrWindow (v : Word) (s : State) : Host.Outcome State Fault Refusal :=
  .next (s.completeWrite (setWindow v s.otp))

/-- `WR COUNTER_LO, v` (idx 4) writes COUNTER[31:0], the high half unchanged (R124). -/
def execWrCounterLo (v : Word) (s : State) : Host.Outcome State Fault Refusal :=
  .next (s.completeWrite (setCounterLo v s.otp))

/-- `WR COUNTER_HI, v` (idx 5) writes COUNTER[63:32], the low half unchanged (R124). -/
def execWrCounterHi (v : Word) (s : State) : Host.Outcome State Fault Refusal :=
  .next (s.completeWrite (setCounterHi v s.otp))

/-- `WR NOW_LO, v` (idx 6) writes NOW[31:0], the high half unchanged (R125). -/
def execWrNowLo (v : Word) (s : State) : Host.Outcome State Fault Refusal :=
  .next (s.completeWrite (setNowLo v s.otp))

/-- `WR NOW_HI, v` (idx 7) writes NOW[63:32], the low half unchanged (R125). -/
def execWrNowHi (v : Word) (s : State) : Host.Outcome State Fault Refusal :=
  .next (s.completeWrite (setNowHi v s.otp))

/-- `WR KEY_PUSH, v` (idx 8) appends the byte `v[7:0]` to the key (R127). -/
def execWrKeyPush (v : Word) (s : State) : Host.Outcome State Fault Refusal :=
  .next (s.completeWrite (keyPush s.keyMax.bytes (keyByte v) s.otp))

/-- `WR KEY_LEN, v` (idx 9): a write to a read-only register "does nothing" (R132). -/
def execWrKeyLen (_v : Word) (s : State) : Host.Outcome State Fault Refusal :=
  .next (s.completeWrite s.otp)

/-- `WR CODE_LEN, v` (idx 10): a write to a read-only register "does nothing" (R132). -/
def execWrCodeLen (_v : Word) (s : State) : Host.Outcome State Fault Refusal :=
  .next (s.completeWrite s.otp)

/-- `WR CODE_VAL, v` (idx 11): a write to a read-only register "does nothing" (R132). -/
def execWrCodeVal (_v : Word) (s : State) : Host.Outcome State Fault Refusal :=
  .next (s.completeWrite s.otp)

/-- `WR #12, v` (idx 12): a write to a reserved slot "does nothing" (R132). -/
def execWrSlot12 (_v : Word) (s : State) : Host.Outcome State Fault Refusal :=
  .next (s.completeWrite s.otp)

/-- `WR #13, v` (idx 13): a write to a reserved slot "does nothing" (R132). -/
def execWrSlot13 (_v : Word) (s : State) : Host.Outcome State Fault Refusal :=
  .next (s.completeWrite s.otp)

/-- `WR #14, v` (idx 14): a write to a reserved slot "does nothing" (R132). -/
def execWrSlot14 (_v : Word) (s : State) : Host.Outcome State Fault Refusal :=
  .next (s.completeWrite s.otp)

/-- `WR #15, v` (idx 15): a write to a reserved slot "does nothing" (R132). -/
def execWrSlot15 (_v : Word) (s : State) : Host.Outcome State Fault Refusal :=
  .next (s.completeWrite s.otp)

/-- `WR CODE0, v` (idx 16): a write to a read-only register "does nothing" (R132). -/
def execWrCode0 (_v : Word) (s : State) : Host.Outcome State Fault Refusal :=
  .next (s.completeWrite s.otp)

/-- `WR CODE1, v` (idx 17): a write to a read-only register "does nothing" (R132). -/
def execWrCode1 (_v : Word) (s : State) : Host.Outcome State Fault Refusal :=
  .next (s.completeWrite s.otp)

/-- `WR CODE2, v` (idx 18): a write to a read-only register "does nothing" (R132). -/
def execWrCode2 (_v : Word) (s : State) : Host.Outcome State Fault Refusal :=
  .next (s.completeWrite s.otp)

/-- `WR CODE3, v` (idx 19): a write to a read-only register "does nothing" (R132). -/
def execWrCode3 (_v : Word) (s : State) : Host.Outcome State Fault Refusal :=
  .next (s.completeWrite s.otp)

/-- `WR CODE4, v` (idx 20): a write to a read-only register "does nothing" (R132). -/
def execWrCode4 (_v : Word) (s : State) : Host.Outcome State Fault Refusal :=
  .next (s.completeWrite s.otp)

/-- `WR CODE5, v` (idx 21): a write to a read-only register "does nothing" (R132). -/
def execWrCode5 (_v : Word) (s : State) : Host.Outcome State Fault Refusal :=
  .next (s.completeWrite s.otp)

/-- `WR CODE6, v` (idx 22): a write to a read-only register "does nothing" (R132). -/
def execWrCode6 (_v : Word) (s : State) : Host.Outcome State Fault Refusal :=
  .next (s.completeWrite s.otp)

/-- `WR CODE7, v` (idx 23): a write to a read-only register "does nothing" (R132). -/
def execWrCode7 (_v : Word) (s : State) : Host.Outcome State Fault Refusal :=
  .next (s.completeWrite s.otp)

/-- `WR CODE8, v` (idx 24): a write to a read-only register "does nothing" (R132). -/
def execWrCode8 (_v : Word) (s : State) : Host.Outcome State Fault Refusal :=
  .next (s.completeWrite s.otp)

/-- `WR CODE9, v` (idx 25): a write to a read-only register "does nothing" (R132). -/
def execWrCode9 (_v : Word) (s : State) : Host.Outcome State Fault Refusal :=
  .next (s.completeWrite s.otp)

/-- `WR #26, v` (idx 26): a write to a reserved slot "does nothing" (R132). -/
def execWrSlot26 (_v : Word) (s : State) : Host.Outcome State Fault Refusal :=
  .next (s.completeWrite s.otp)

/-- `WR #27, v` (idx 27): a write to a reserved slot "does nothing" (R132). -/
def execWrSlot27 (_v : Word) (s : State) : Host.Outcome State Fault Refusal :=
  .next (s.completeWrite s.otp)

/-- `WR #28, v` (idx 28): a write to a reserved slot "does nothing" (R132). -/
def execWrSlot28 (_v : Word) (s : State) : Host.Outcome State Fault Refusal :=
  .next (s.completeWrite s.otp)

/-- `WR #29, v` (idx 29): a write to a reserved slot "does nothing" (R132). -/
def execWrSlot29 (_v : Word) (s : State) : Host.Outcome State Fault Refusal :=
  .next (s.completeWrite s.otp)

/-- `WR #30, v` (idx 30): a write to a reserved slot "does nothing" (R132). -/
def execWrSlot30 (_v : Word) (s : State) : Host.Outcome State Fault Refusal :=
  .next (s.completeWrite s.otp)

/-- `WR #31, v` (idx 31): a write to a reserved slot "does nothing" (R132). -/
def execWrSlot31 (_v : Word) (s : State) : Host.Outcome State Fault Refusal :=
  .next (s.completeWrite s.otp)

/-- `WR #32, v` (idx 32): a write to a reserved slot "does nothing" (R132). -/
def execWrSlot32 (_v : Word) (s : State) : Host.Outcome State Fault Refusal :=
  .next (s.completeWrite s.otp)

/-- `WR #33, v` (idx 33): a write to a reserved slot "does nothing" (R132). -/
def execWrSlot33 (_v : Word) (s : State) : Host.Outcome State Fault Refusal :=
  .next (s.completeWrite s.otp)

/-- `WR #34, v` (idx 34): a write to a reserved slot "does nothing" (R132). -/
def execWrSlot34 (_v : Word) (s : State) : Host.Outcome State Fault Refusal :=
  .next (s.completeWrite s.otp)

/-- `WR #35, v` (idx 35): a write to a reserved slot "does nothing" (R132). -/
def execWrSlot35 (_v : Word) (s : State) : Host.Outcome State Fault Refusal :=
  .next (s.completeWrite s.otp)

/-- `WR #36, v` (idx 36): a write to a reserved slot "does nothing" (R132). -/
def execWrSlot36 (_v : Word) (s : State) : Host.Outcome State Fault Refusal :=
  .next (s.completeWrite s.otp)

/-- `WR #37, v` (idx 37): a write to a reserved slot "does nothing" (R132). -/
def execWrSlot37 (_v : Word) (s : State) : Host.Outcome State Fault Refusal :=
  .next (s.completeWrite s.otp)

/-- `WR #38, v` (idx 38): a write to a reserved slot "does nothing" (R132). -/
def execWrSlot38 (_v : Word) (s : State) : Host.Outcome State Fault Refusal :=
  .next (s.completeWrite s.otp)

/-- `WR #39, v` (idx 39): a write to a reserved slot "does nothing" (R132). -/
def execWrSlot39 (_v : Word) (s : State) : Host.Outcome State Fault Refusal :=
  .next (s.completeWrite s.otp)

/-- `WR #40, v` (idx 40): a write to a reserved slot "does nothing" (R132). -/
def execWrSlot40 (_v : Word) (s : State) : Host.Outcome State Fault Refusal :=
  .next (s.completeWrite s.otp)

/-- `WR #41, v` (idx 41): a write to a reserved slot "does nothing" (R132). -/
def execWrSlot41 (_v : Word) (s : State) : Host.Outcome State Fault Refusal :=
  .next (s.completeWrite s.otp)

/-- `WR #42, v` (idx 42): a write to a reserved slot "does nothing" (R132). -/
def execWrSlot42 (_v : Word) (s : State) : Host.Outcome State Fault Refusal :=
  .next (s.completeWrite s.otp)

/-- `WR #43, v` (idx 43): a write to a reserved slot "does nothing" (R132). -/
def execWrSlot43 (_v : Word) (s : State) : Host.Outcome State Fault Refusal :=
  .next (s.completeWrite s.otp)

/-- `WR #44, v` (idx 44): a write to a reserved slot "does nothing" (R132). -/
def execWrSlot44 (_v : Word) (s : State) : Host.Outcome State Fault Refusal :=
  .next (s.completeWrite s.otp)

/-- `WR #45, v` (idx 45): a write to a reserved slot "does nothing" (R132). -/
def execWrSlot45 (_v : Word) (s : State) : Host.Outcome State Fault Refusal :=
  .next (s.completeWrite s.otp)

/-- `WR #46, v` (idx 46): a write to a reserved slot "does nothing" (R132). -/
def execWrSlot46 (_v : Word) (s : State) : Host.Outcome State Fault Refusal :=
  .next (s.completeWrite s.otp)

/-- `WR #47, v` (idx 47): a write to a reserved slot "does nothing" (R132). -/
def execWrSlot47 (_v : Word) (s : State) : Host.Outcome State Fault Refusal :=
  .next (s.completeWrite s.otp)

/-- `WR #48, v` (idx 48): a write to a reserved slot "does nothing" (R132). -/
def execWrSlot48 (_v : Word) (s : State) : Host.Outcome State Fault Refusal :=
  .next (s.completeWrite s.otp)

/-- `WR #49, v` (idx 49): a write to a reserved slot "does nothing" (R132). -/
def execWrSlot49 (_v : Word) (s : State) : Host.Outcome State Fault Refusal :=
  .next (s.completeWrite s.otp)

/-- `WR #50, v` (idx 50): a write to a reserved slot "does nothing" (R132). -/
def execWrSlot50 (_v : Word) (s : State) : Host.Outcome State Fault Refusal :=
  .next (s.completeWrite s.otp)

/-- `WR #51, v` (idx 51): a write to a reserved slot "does nothing" (R132). -/
def execWrSlot51 (_v : Word) (s : State) : Host.Outcome State Fault Refusal :=
  .next (s.completeWrite s.otp)

/-- `WR #52, v` (idx 52): a write to a reserved slot "does nothing" (R132). -/
def execWrSlot52 (_v : Word) (s : State) : Host.Outcome State Fault Refusal :=
  .next (s.completeWrite s.otp)

/-- `WR #53, v` (idx 53): a write to a reserved slot "does nothing" (R132). -/
def execWrSlot53 (_v : Word) (s : State) : Host.Outcome State Fault Refusal :=
  .next (s.completeWrite s.otp)

/-- `WR #54, v` (idx 54): a write to a reserved slot "does nothing" (R132). -/
def execWrSlot54 (_v : Word) (s : State) : Host.Outcome State Fault Refusal :=
  .next (s.completeWrite s.otp)

/-- `WR #55, v` (idx 55): a write to a reserved slot "does nothing" (R132). -/
def execWrSlot55 (_v : Word) (s : State) : Host.Outcome State Fault Refusal :=
  .next (s.completeWrite s.otp)

/-- `WR #56, v` (idx 56): a write to a reserved slot "does nothing" (R132). -/
def execWrSlot56 (_v : Word) (s : State) : Host.Outcome State Fault Refusal :=
  .next (s.completeWrite s.otp)

/-- `WR #57, v` (idx 57): a write to a reserved slot "does nothing" (R132). -/
def execWrSlot57 (_v : Word) (s : State) : Host.Outcome State Fault Refusal :=
  .next (s.completeWrite s.otp)

/-- `WR #58, v` (idx 58): a write to a reserved slot "does nothing" (R132). -/
def execWrSlot58 (_v : Word) (s : State) : Host.Outcome State Fault Refusal :=
  .next (s.completeWrite s.otp)

/-- `WR #59, v` (idx 59): a write to a reserved slot "does nothing" (R132). -/
def execWrSlot59 (_v : Word) (s : State) : Host.Outcome State Fault Refusal :=
  .next (s.completeWrite s.otp)

/-- `WR #60, v` (idx 60): a write to a reserved slot "does nothing" (R132). -/
def execWrSlot60 (_v : Word) (s : State) : Host.Outcome State Fault Refusal :=
  .next (s.completeWrite s.otp)

/-- `WR #61, v` (idx 61): a write to a reserved slot "does nothing" (R132). -/
def execWrSlot61 (_v : Word) (s : State) : Host.Outcome State Fault Refusal :=
  .next (s.completeWrite s.otp)

/-- `WR #62, v` (idx 62): a write to a reserved slot "does nothing" (R132). -/
def execWrSlot62 (_v : Word) (s : State) : Host.Outcome State Fault Refusal :=
  .next (s.completeWrite s.otp)

/-- `WR #63, v` (idx 63): a write to a reserved slot "does nothing" (R132). -/
def execWrSlot63 (_v : Word) (s : State) : Host.Outcome State Fault Refusal :=
  .next (s.completeWrite s.otp)

end Sys2Proof.Machine
end

