-- ==== Sys2Proof/Machine/Dispatch.lean ====
section
/-! DEFINITION. The one dispatch from instructions to meanings: one arm per constructor of Instr. -/

namespace Sys2Proof.Machine

/-- What an instruction does to a state. -/
def exec (i : Instr) (s : State) : Host.Outcome State Fault Refusal :=
  match i with
  -- the four commands (format C)
  | .hotp => Sys2Proof.Machine.execHotp s
  | .totp => Sys2Proof.Machine.execTotp s
  | .ldtime => Sys2Proof.Machine.execLdtime s
  | .clear => Sys2Proof.Machine.execClear s
  -- illegal command words, reserved bits zero
  | .illegalOpc0 => Sys2Proof.Machine.execIllegalOpc0 s
  | .illegalOpc5 => Sys2Proof.Machine.execIllegalOpc5 s
  | .illegalOpc6 => Sys2Proof.Machine.execIllegalOpc6 s
  | .illegalOpc7 => Sys2Proof.Machine.execIllegalOpc7 s
  | .illegalOpc8 => Sys2Proof.Machine.execIllegalOpc8 s
  | .illegalOpc9 => Sys2Proof.Machine.execIllegalOpc9 s
  | .illegalOpc10 => Sys2Proof.Machine.execIllegalOpc10 s
  | .illegalOpc11 => Sys2Proof.Machine.execIllegalOpc11 s
  | .illegalOpc12 => Sys2Proof.Machine.execIllegalOpc12 s
  | .illegalOpc13 => Sys2Proof.Machine.execIllegalOpc13 s
  | .illegalOpc14 => Sys2Proof.Machine.execIllegalOpc14 s
  | .illegalOpc15 => Sys2Proof.Machine.execIllegalOpc15 s
  -- illegal command words, a reserved bit set
  | .illegalRsvd4 w => Sys2Proof.Machine.execIllegalRsvd4 w s
  | .illegalRsvd5 w => Sys2Proof.Machine.execIllegalRsvd5 w s
  | .illegalRsvd6 w => Sys2Proof.Machine.execIllegalRsvd6 w s
  | .illegalRsvd7 w => Sys2Proof.Machine.execIllegalRsvd7 w s
  | .illegalRsvd8 w => Sys2Proof.Machine.execIllegalRsvd8 w s
  | .illegalRsvd9 w => Sys2Proof.Machine.execIllegalRsvd9 w s
  | .illegalRsvd10 w => Sys2Proof.Machine.execIllegalRsvd10 w s
  | .illegalRsvd11 w => Sys2Proof.Machine.execIllegalRsvd11 w s
  | .illegalRsvd12 w => Sys2Proof.Machine.execIllegalRsvd12 w s
  | .illegalRsvd13 w => Sys2Proof.Machine.execIllegalRsvd13 w s
  | .illegalRsvd14 w => Sys2Proof.Machine.execIllegalRsvd14 w s
  | .illegalRsvd15 w => Sys2Proof.Machine.execIllegalRsvd15 w s
  | .illegalRsvd16 w => Sys2Proof.Machine.execIllegalRsvd16 w s
  | .illegalRsvd17 w => Sys2Proof.Machine.execIllegalRsvd17 w s
  | .illegalRsvd18 w => Sys2Proof.Machine.execIllegalRsvd18 w s
  | .illegalRsvd19 w => Sys2Proof.Machine.execIllegalRsvd19 w s
  | .illegalRsvd20 w => Sys2Proof.Machine.execIllegalRsvd20 w s
  | .illegalRsvd21 w => Sys2Proof.Machine.execIllegalRsvd21 w s
  | .illegalRsvd22 w => Sys2Proof.Machine.execIllegalRsvd22 w s
  | .illegalRsvd23 w => Sys2Proof.Machine.execIllegalRsvd23 w s
  | .illegalRsvd24 w => Sys2Proof.Machine.execIllegalRsvd24 w s
  | .illegalRsvd25 w => Sys2Proof.Machine.execIllegalRsvd25 w s
  | .illegalRsvd26 w => Sys2Proof.Machine.execIllegalRsvd26 w s
  | .illegalRsvd27 w => Sys2Proof.Machine.execIllegalRsvd27 w s
  | .illegalRsvd28 w => Sys2Proof.Machine.execIllegalRsvd28 w s
  | .illegalRsvd29 w => Sys2Proof.Machine.execIllegalRsvd29 w s
  | .illegalRsvd30 w => Sys2Proof.Machine.execIllegalRsvd30 w s
  | .illegalRsvd31 w => Sys2Proof.Machine.execIllegalRsvd31 w s
  -- register reads (format T, we = 0)
  | .rdCmd => Sys2Proof.Machine.execRdCmd s
  | .rdStatus => Sys2Proof.Machine.execRdStatus s
  | .rdDigits => Sys2Proof.Machine.execRdDigits s
  | .rdWindow => Sys2Proof.Machine.execRdWindow s
  | .rdCounterLo => Sys2Proof.Machine.execRdCounterLo s
  | .rdCounterHi => Sys2Proof.Machine.execRdCounterHi s
  | .rdNowLo => Sys2Proof.Machine.execRdNowLo s
  | .rdNowHi => Sys2Proof.Machine.execRdNowHi s
  | .rdKeyPush => Sys2Proof.Machine.execRdKeyPush s
  | .rdKeyLen => Sys2Proof.Machine.execRdKeyLen s
  | .rdCodeLen => Sys2Proof.Machine.execRdCodeLen s
  | .rdCodeVal => Sys2Proof.Machine.execRdCodeVal s
  | .rdSlot12 => Sys2Proof.Machine.execRdSlot12 s
  | .rdSlot13 => Sys2Proof.Machine.execRdSlot13 s
  | .rdSlot14 => Sys2Proof.Machine.execRdSlot14 s
  | .rdSlot15 => Sys2Proof.Machine.execRdSlot15 s
  | .rdCode0 => Sys2Proof.Machine.execRdCode0 s
  | .rdCode1 => Sys2Proof.Machine.execRdCode1 s
  | .rdCode2 => Sys2Proof.Machine.execRdCode2 s
  | .rdCode3 => Sys2Proof.Machine.execRdCode3 s
  | .rdCode4 => Sys2Proof.Machine.execRdCode4 s
  | .rdCode5 => Sys2Proof.Machine.execRdCode5 s
  | .rdCode6 => Sys2Proof.Machine.execRdCode6 s
  | .rdCode7 => Sys2Proof.Machine.execRdCode7 s
  | .rdCode8 => Sys2Proof.Machine.execRdCode8 s
  | .rdCode9 => Sys2Proof.Machine.execRdCode9 s
  | .rdSlot26 => Sys2Proof.Machine.execRdSlot26 s
  | .rdSlot27 => Sys2Proof.Machine.execRdSlot27 s
  | .rdSlot28 => Sys2Proof.Machine.execRdSlot28 s
  | .rdSlot29 => Sys2Proof.Machine.execRdSlot29 s
  | .rdSlot30 => Sys2Proof.Machine.execRdSlot30 s
  | .rdSlot31 => Sys2Proof.Machine.execRdSlot31 s
  | .rdSlot32 => Sys2Proof.Machine.execRdSlot32 s
  | .rdSlot33 => Sys2Proof.Machine.execRdSlot33 s
  | .rdSlot34 => Sys2Proof.Machine.execRdSlot34 s
  | .rdSlot35 => Sys2Proof.Machine.execRdSlot35 s
  | .rdSlot36 => Sys2Proof.Machine.execRdSlot36 s
  | .rdSlot37 => Sys2Proof.Machine.execRdSlot37 s
  | .rdSlot38 => Sys2Proof.Machine.execRdSlot38 s
  | .rdSlot39 => Sys2Proof.Machine.execRdSlot39 s
  | .rdSlot40 => Sys2Proof.Machine.execRdSlot40 s
  | .rdSlot41 => Sys2Proof.Machine.execRdSlot41 s
  | .rdSlot42 => Sys2Proof.Machine.execRdSlot42 s
  | .rdSlot43 => Sys2Proof.Machine.execRdSlot43 s
  | .rdSlot44 => Sys2Proof.Machine.execRdSlot44 s
  | .rdSlot45 => Sys2Proof.Machine.execRdSlot45 s
  | .rdSlot46 => Sys2Proof.Machine.execRdSlot46 s
  | .rdSlot47 => Sys2Proof.Machine.execRdSlot47 s
  | .rdSlot48 => Sys2Proof.Machine.execRdSlot48 s
  | .rdSlot49 => Sys2Proof.Machine.execRdSlot49 s
  | .rdSlot50 => Sys2Proof.Machine.execRdSlot50 s
  | .rdSlot51 => Sys2Proof.Machine.execRdSlot51 s
  | .rdSlot52 => Sys2Proof.Machine.execRdSlot52 s
  | .rdSlot53 => Sys2Proof.Machine.execRdSlot53 s
  | .rdSlot54 => Sys2Proof.Machine.execRdSlot54 s
  | .rdSlot55 => Sys2Proof.Machine.execRdSlot55 s
  | .rdSlot56 => Sys2Proof.Machine.execRdSlot56 s
  | .rdSlot57 => Sys2Proof.Machine.execRdSlot57 s
  | .rdSlot58 => Sys2Proof.Machine.execRdSlot58 s
  | .rdSlot59 => Sys2Proof.Machine.execRdSlot59 s
  | .rdSlot60 => Sys2Proof.Machine.execRdSlot60 s
  | .rdSlot61 => Sys2Proof.Machine.execRdSlot61 s
  | .rdSlot62 => Sys2Proof.Machine.execRdSlot62 s
  | .rdSlot63 => Sys2Proof.Machine.execRdSlot63 s
  -- register writes (format T, we = 1)
  | .wrCmd v => Sys2Proof.Machine.execWrCmd v s
  | .wrStatus v => Sys2Proof.Machine.execWrStatus v s
  | .wrDigits v => Sys2Proof.Machine.execWrDigits v s
  | .wrWindow v => Sys2Proof.Machine.execWrWindow v s
  | .wrCounterLo v => Sys2Proof.Machine.execWrCounterLo v s
  | .wrCounterHi v => Sys2Proof.Machine.execWrCounterHi v s
  | .wrNowLo v => Sys2Proof.Machine.execWrNowLo v s
  | .wrNowHi v => Sys2Proof.Machine.execWrNowHi v s
  | .wrKeyPush v => Sys2Proof.Machine.execWrKeyPush v s
  | .wrKeyLen v => Sys2Proof.Machine.execWrKeyLen v s
  | .wrCodeLen v => Sys2Proof.Machine.execWrCodeLen v s
  | .wrCodeVal v => Sys2Proof.Machine.execWrCodeVal v s
  | .wrSlot12 v => Sys2Proof.Machine.execWrSlot12 v s
  | .wrSlot13 v => Sys2Proof.Machine.execWrSlot13 v s
  | .wrSlot14 v => Sys2Proof.Machine.execWrSlot14 v s
  | .wrSlot15 v => Sys2Proof.Machine.execWrSlot15 v s
  | .wrCode0 v => Sys2Proof.Machine.execWrCode0 v s
  | .wrCode1 v => Sys2Proof.Machine.execWrCode1 v s
  | .wrCode2 v => Sys2Proof.Machine.execWrCode2 v s
  | .wrCode3 v => Sys2Proof.Machine.execWrCode3 v s
  | .wrCode4 v => Sys2Proof.Machine.execWrCode4 v s
  | .wrCode5 v => Sys2Proof.Machine.execWrCode5 v s
  | .wrCode6 v => Sys2Proof.Machine.execWrCode6 v s
  | .wrCode7 v => Sys2Proof.Machine.execWrCode7 v s
  | .wrCode8 v => Sys2Proof.Machine.execWrCode8 v s
  | .wrCode9 v => Sys2Proof.Machine.execWrCode9 v s
  | .wrSlot26 v => Sys2Proof.Machine.execWrSlot26 v s
  | .wrSlot27 v => Sys2Proof.Machine.execWrSlot27 v s
  | .wrSlot28 v => Sys2Proof.Machine.execWrSlot28 v s
  | .wrSlot29 v => Sys2Proof.Machine.execWrSlot29 v s
  | .wrSlot30 v => Sys2Proof.Machine.execWrSlot30 v s
  | .wrSlot31 v => Sys2Proof.Machine.execWrSlot31 v s
  | .wrSlot32 v => Sys2Proof.Machine.execWrSlot32 v s
  | .wrSlot33 v => Sys2Proof.Machine.execWrSlot33 v s
  | .wrSlot34 v => Sys2Proof.Machine.execWrSlot34 v s
  | .wrSlot35 v => Sys2Proof.Machine.execWrSlot35 v s
  | .wrSlot36 v => Sys2Proof.Machine.execWrSlot36 v s
  | .wrSlot37 v => Sys2Proof.Machine.execWrSlot37 v s
  | .wrSlot38 v => Sys2Proof.Machine.execWrSlot38 v s
  | .wrSlot39 v => Sys2Proof.Machine.execWrSlot39 v s
  | .wrSlot40 v => Sys2Proof.Machine.execWrSlot40 v s
  | .wrSlot41 v => Sys2Proof.Machine.execWrSlot41 v s
  | .wrSlot42 v => Sys2Proof.Machine.execWrSlot42 v s
  | .wrSlot43 v => Sys2Proof.Machine.execWrSlot43 v s
  | .wrSlot44 v => Sys2Proof.Machine.execWrSlot44 v s
  | .wrSlot45 v => Sys2Proof.Machine.execWrSlot45 v s
  | .wrSlot46 v => Sys2Proof.Machine.execWrSlot46 v s
  | .wrSlot47 v => Sys2Proof.Machine.execWrSlot47 v s
  | .wrSlot48 v => Sys2Proof.Machine.execWrSlot48 v s
  | .wrSlot49 v => Sys2Proof.Machine.execWrSlot49 v s
  | .wrSlot50 v => Sys2Proof.Machine.execWrSlot50 v s
  | .wrSlot51 v => Sys2Proof.Machine.execWrSlot51 v s
  | .wrSlot52 v => Sys2Proof.Machine.execWrSlot52 v s
  | .wrSlot53 v => Sys2Proof.Machine.execWrSlot53 v s
  | .wrSlot54 v => Sys2Proof.Machine.execWrSlot54 v s
  | .wrSlot55 v => Sys2Proof.Machine.execWrSlot55 v s
  | .wrSlot56 v => Sys2Proof.Machine.execWrSlot56 v s
  | .wrSlot57 v => Sys2Proof.Machine.execWrSlot57 v s
  | .wrSlot58 v => Sys2Proof.Machine.execWrSlot58 v s
  | .wrSlot59 v => Sys2Proof.Machine.execWrSlot59 v s
  | .wrSlot60 v => Sys2Proof.Machine.execWrSlot60 v s
  | .wrSlot61 v => Sys2Proof.Machine.execWrSlot61 v s
  | .wrSlot62 v => Sys2Proof.Machine.execWrSlot62 v s
  | .wrSlot63 v => Sys2Proof.Machine.execWrSlot63 v s

end Sys2Proof.Machine
end

