-- ==== Sys2Proof/Machine/Step.lean ====
section
/-! DEFINITION. One step: the next event of the host or of reset acts on the core (spec/20_memory.md R60, R74). -/

namespace Sys2Proof.Machine

/-- One step. With no event waiting the core does nothing: "it never acts except inside a host transaction" (R60). -/
def step (s : State) : Host.Outcome State Fault Refusal :=
  match s.takeEvent with
  | none => .next s
  | some (.reset, s') => .next s'.resetEvent
  | some (.word b, s') => exec (decodeWord b) s'

/-- The state whose very next step brings the given word of spec/opcode_table.json to the core: the core fetches nothing (R27), so the
word is put before all the host's other events. -/
def State.withFetchWord (s : State) (nbits w : Nat) : State := s.putEvent (.word (busWordOfTable nbits w))

end Sys2Proof.Machine
end

