-- ==== Sys2Proof/Machine/Pseudo.lean ====
section
/-! DEFINITION. The host's side in the spec's notation: byte offsets (spec/20_memory.md R63), the pseudo-instructions and the two library
calls (spec/30_encoding.md R101 to R103). HOTP, TOTP, LDTIME and CLEAR of R102 are constructors of `Instr`. -/

namespace Sys2Proof.Machine

/-- The byte offset of slot `idx` from the platform's base address, for a host that addresses bytes (R63). -/
def byteOffset (idx : Idx) : Nat := 4 * idx.toNat

/-! ## The pseudo-instructions (R102) -/

/-- `SETCTR v`: the low half, then the high half (R102). -/
def setCtr (v : DWord) : List Instr := [.wrCounterLo (loHalf v), .wrCounterHi (hiHalf v)]

/-- `SETNOW v`: the two halves of the 64-bit two's-complement pattern of `v` (R102). DESIGN CHOICE (log 12): R102 defines it for a 64-bit
`v` only; an integer outside -2^63 to 2^63 - 1 is taken modulo 2^64 here. -/
def setNow (v : Int) : List Instr := [.wrNowLo (loHalf (BitVec.ofInt 64 v)), .wrNowHi (hiHalf (BitVec.ofInt 64 v))]

/-- `KEYHEX b0 … bn-1`: one push a byte, in that order, none for `n` = 0 (R102). -/
def keyHex (key : List Byte) : List Instr := key.map fun b => .wrKeyPush (b.setWidth 32)

/-- `KEYSTR "text"`: `KEYHEX` of the ASCII bytes of the text (R102). DESIGN CHOICE (log 11): R102 speaks of ASCII bytes only, and a text
with another character has no expansion here. -/
def keyStr (text : String) : Option (List Instr) :=
  if text.toList.all (fun c => c.toNat < 128) then some (keyHex (text.toList.map fun c => BitVec.ofNat 8 c.toNat)) else none

/-- `TOTPNOW`: LDTIME, then TOTP (R102, spec/43_totp.md R210). -/
def totpNow : List Instr := [.ldtime, .totp]

/-! ## What the host issues in the library calls (R103) -/

/-- The `now` of the TOTP call: "`SETNOW now` (or `LDTIME` when `now` is the default current time)" (R103). -/
inductive TimeSource where
  /-- The caller fixes the time, in seconds; one that NOW cannot hold is taken modulo 2^64 by `setNow` (DESIGN CHOICE, log 12). -/
  | fixed (now : Int)
  /-- The platform's current time. -/
  | current
  deriving DecidableEq, Repr

/-- The instructions that bring the time into NOW (R103). -/
def TimeSource.writes : TimeSource → List Instr
  | .fixed now => setNow now
  | .current => [.ldtime]

/-- What `HOTP(key, counter, digits)` writes before its command (R103). -/
def hotpWrites (key : List Byte) (counter : DWord) (digits : Word) : List Instr :=
  keyHex key ++ setCtr counter ++ [.wrDigits digits]

/-- What `TOTP(key, digits, window_seconds, now)` writes before its command (R103). -/
def totpWrites (key : List Byte) (digits window : Word) (now : TimeSource) : List Instr :=
  keyHex key ++ [.wrDigits digits, .wrWindow window] ++ now.writes

/-- A push of a key byte. -/
def isKeyPush : Instr → Bool
  | .wrKeyPush _ => true
  | _ => false

/-- "The writes before the command may come in any order" (R103), the key bytes among themselves in key order (spec/10_state.md R36). -/
def InAnyOrder (order writes : List Instr) : Prop :=
  order.Perm writes ∧ order.filter isKeyPush = writes.filter isKeyPush

/-- A call up to its command: "`CLEAR` (only if a partial key may be loaded)", the writes, the command (R103; spec/60_exceptions.md R249
has the CLEAR for both calls). -/
def callWith (partialKey : Bool) (writes : List Instr) (command : Instr) : List Instr :=
  (if partialKey then [.clear] else []) ++ writes ++ [command]

/-- `HOTP(key, counter, digits)` up to its command, in the order R103 lists. -/
def hotpCall (partialKey : Bool) (key : List Byte) (counter : DWord) (digits : Word) : List Instr :=
  callWith partialKey (hotpWrites key counter digits) .hotp

/-- `TOTP(key, digits, window_seconds, now)` up to its command, in the order R103 lists. -/
def totpCall (partialKey : Bool) (key : List Byte) (digits window : Word) (now : TimeSource) : List Instr :=
  callWith partialKey (totpWrites key digits window now) .totp

/-- The reads of CODE0 to CODE9. -/
def codeReads : List Instr :=
  [.rdCode0, .rdCode1, .rdCode2, .rdCode3, .rdCode4, .rdCode5, .rdCode6, .rdCode7, .rdCode8, .rdCode9]

/-- The reads after OK was seen: "`RD CODE_LEN` and `RD CODE0` .. `RD CODE<digits-1>`" (R103). -/
def resultReads (digits : Nat) : List Instr := .rdCodeLen :: codeReads.take digits

/-- What the host does to run instructions in order: one transaction each (R101). -/
def hostEvents (is : List Instr) : List HostEvent := is.map fun i => .word (encode i)

/-! ## The library calls with what the host reads (R103) -/

/-- Going on from a next state; a fault or a refusal ends the sequence. -/
def andThen {α β : Type} (o : Host.Outcome α Fault Refusal) (f : α → Host.Outcome β Fault Refusal) :
    Host.Outcome β Fault Refusal :=
  match o with
  | .next a => f a
  | .fault r => .fault r
  | .refused r => .refused r

/-- The host issues instructions in order, before all events that wait (log 2): the state they leave, and the words the reads
returned. -/
def issue : List Instr → State → Host.Outcome (State × List Word) Fault Refusal
  | [], s => .next (s, [])
  | i :: is, s =>
    andThen (step (s.putEvent (.word (encode i)))) fun t =>
      andThen (issue is t) fun r => .next (r.1, t.response.toList ++ r.2)

/-- What a library call gives its caller. -/
inductive CallResult where
  /-- OK was read: CODE_LEN and the characters read. -/
  | code (len : Word) (chars : List Word)
  /-- OK was not read: the STATUS word, which names the failure. -/
  | failure (status : Word)
  deriving DecidableEq, Repr

/-- "`RD STATUS`; if OK, `RD CODE_LEN` and `RD CODE0` .. `RD CODE<digits-1>`" (R103). -/
def readResult (digits : Nat) (s : State) : Host.Outcome (State × CallResult) Fault Refusal :=
  andThen (issue [.rdStatus] s) fun r =>
    if (r.2.headD 0#32).getLsbD 0 then
      andThen (issue (resultReads digits) r.1) fun q => .next (q.1, .code (q.2.headD 0#32) q.2.tail)
    else .next (r.1, .failure (r.2.headD 0#32))

/-- A library call whole: its transactions up to the command, then the reads of its result (R103). -/
def libraryCall (call : List Instr) (digits : Nat) (s : State) : Host.Outcome (State × CallResult) Fault Refusal :=
  andThen (issue call s) fun r => readResult digits r.1

/-- The document's `HOTP(key, counter, digits)` (R103). -/
def hotpLibrary (partialKey : Bool) (key : List Byte) (counter : DWord) (digits : Word) (s : State) :
    Host.Outcome (State × CallResult) Fault Refusal :=
  libraryCall (hotpCall partialKey key counter digits) digits.toNat s

/-- The document's `TOTP(key, digits, window_seconds, now)` (R103). -/
def totpLibrary (partialKey : Bool) (key : List Byte) (digits window : Word) (now : TimeSource) (s : State) :
    Host.Outcome (State × CallResult) Fault Refusal :=
  libraryCall (totpCall partialKey key digits window now) digits.toNat s

end Sys2Proof.Machine
end

