-- ==== Sys2Proof/Safety.lean ====
section
/-! DEFINITION. What counts as a good state and a safe run, in the terms the claims use: the spec's invariants
(spec/10_state.md R20, R31, R36, R38) and completion (spec/20_memory.md R62). -/

namespace Sys2Proof.Machine

/-- R20 and R36: the key buffer has `keyMax` bytes, at most `keyMax` are loaded, and `S.KEY[i] = 0x00` for every i >= KEY_LEN. -/
structure KeyInv (keyMax : Nat) (S : OtpState) : Prop where
  size : S.key.length = keyMax
  fill : S.keyLen ≤ keyMax
  rest : ∀ i, S.keyLen ≤ i → byteAt S.key i = 0#8

/-- R31: OK and ERR are never both 1; ERRCODE is not 0 exactly when ERR is 1; ERRCODE is one of 0, 1, 3, 4; KEY_OVF = 1 implies
KEY_LEN = KEY_MAX. -/
structure FlagInv (keyMax : Nat) (S : OtpState) : Prop where
  notBoth : ¬ (S.ok = true ∧ S.err = true)
  codeIffErr : S.errCode ≠ 0#4 ↔ S.err = true
  legalCode : S.errCode = 0#4 ∨ S.errCode = 1#4 ∨ S.errCode = 3#4 ∨ S.errCode = 4#4
  overflowFull : S.keyOvf = true → S.keyLen = keyMax

/-- R38, first alternative: no code. -/
structure NoCode (S : OtpState) : Prop where
  len : S.codeLen = 0
  chars : ∀ i : Fin 10, S.code[i] = 0#8
  value : S.codeVal = 0#32

/-- R38, second alternative: CODE holds the decimal digits of CODE_VAL, padded on the left with '0' to CODE_LEN characters, then
0x00. CODE_VAL uses 31 bits (spec/20_memory.md R64, spec/42_hotp.md R173). -/
structure HoldsCode (S : OtpState) : Prop where
  lenPos : 1 ≤ S.codeLen
  lenMax : S.codeLen ≤ 10
  value : S.codeVal.toNat < 10 ^ S.codeLen
  width : S.codeVal.toNat < 2 ^ 31
  chars : ∀ i : Fin 10, S.code[i] =
    if i.val < S.codeLen then chr (S.codeVal.toNat / 10 ^ (S.codeLen - 1 - i.val) % 10) else 0#8

/-- R38. -/
def CodeInv (S : OtpState) : Prop := NoCode S ∨ HoldsCode S

/-- The spec's invariants of the record `S` together. -/
structure OtpState.Inv (keyMax : Nat) (S : OtpState) : Prop where
  key : KeyInv keyMax S
  flags : FlagInv keyMax S
  code : CodeInv S

/-- The spec's invariants of the machine's state. -/
def State.Inv (s : State) : Prop := s.otp.Inv s.keyMax.bytes

/-- The command an instruction runs: a command word runs its own, `WR CMD` the one its data encodes, every other transaction none
(spec/30_encoding.md R90, spec/40_host_access.md R126). -/
def commandOf : Instr → Option Cmd
  | .hotp => some .hotp
  | .totp => some .totp
  | .ldtime => some .ldtime
  | .clear => some .clear
  | .wrCmd v => some (decodeCmd v)
  | .illegalOpc0 | .illegalOpc5 | .illegalOpc6 | .illegalOpc7 | .illegalOpc8 | .illegalOpc9
  | .illegalOpc10 | .illegalOpc11 | .illegalOpc12 | .illegalOpc13 | .illegalOpc14 | .illegalOpc15
  | .illegalRsvd4 _ | .illegalRsvd5 _ | .illegalRsvd6 _ | .illegalRsvd7 _ | .illegalRsvd8 _ | .illegalRsvd9 _
  | .illegalRsvd10 _ | .illegalRsvd11 _ | .illegalRsvd12 _ | .illegalRsvd13 _ | .illegalRsvd14 _ | .illegalRsvd15 _
  | .illegalRsvd16 _ | .illegalRsvd17 _ | .illegalRsvd18 _ | .illegalRsvd19 _ | .illegalRsvd20 _ | .illegalRsvd21 _
  | .illegalRsvd22 _ | .illegalRsvd23 _ | .illegalRsvd24 _ | .illegalRsvd25 _ | .illegalRsvd26 _ | .illegalRsvd27 _
  | .illegalRsvd28 _ | .illegalRsvd29 _ | .illegalRsvd30 _ | .illegalRsvd31 _ => some .illegal
  | .rdCmd | .rdStatus | .rdDigits | .rdWindow | .rdCounterLo | .rdCounterHi
  | .rdNowLo | .rdNowHi | .rdKeyPush | .rdKeyLen | .rdCodeLen | .rdCodeVal
  | .rdSlot12 | .rdSlot13 | .rdSlot14 | .rdSlot15 | .rdCode0 | .rdCode1
  | .rdCode2 | .rdCode3 | .rdCode4 | .rdCode5 | .rdCode6 | .rdCode7
  | .rdCode8 | .rdCode9 | .rdSlot26 | .rdSlot27 | .rdSlot28 | .rdSlot29
  | .rdSlot30 | .rdSlot31 | .rdSlot32 | .rdSlot33 | .rdSlot34 | .rdSlot35
  | .rdSlot36 | .rdSlot37 | .rdSlot38 | .rdSlot39 | .rdSlot40 | .rdSlot41
  | .rdSlot42 | .rdSlot43 | .rdSlot44 | .rdSlot45 | .rdSlot46 | .rdSlot47
  | .rdSlot48 | .rdSlot49 | .rdSlot50 | .rdSlot51 | .rdSlot52 | .rdSlot53
  | .rdSlot54 | .rdSlot55 | .rdSlot56 | .rdSlot57 | .rdSlot58 | .rdSlot59
  | .rdSlot60 | .rdSlot61 | .rdSlot62 | .rdSlot63 | .wrStatus _ | .wrDigits _
  | .wrWindow _ | .wrCounterLo _ | .wrCounterHi _ | .wrNowLo _ | .wrNowHi _ | .wrKeyPush _
  | .wrKeyLen _ | .wrCodeLen _ | .wrCodeVal _ | .wrSlot12 _ | .wrSlot13 _ | .wrSlot14 _
  | .wrSlot15 _ | .wrCode0 _ | .wrCode1 _ | .wrCode2 _ | .wrCode3 _ | .wrCode4 _
  | .wrCode5 _ | .wrCode6 _ | .wrCode7 _ | .wrCode8 _ | .wrCode9 _ | .wrSlot26 _
  | .wrSlot27 _ | .wrSlot28 _ | .wrSlot29 _ | .wrSlot30 _ | .wrSlot31 _ | .wrSlot32 _
  | .wrSlot33 _ | .wrSlot34 _ | .wrSlot35 _ | .wrSlot36 _ | .wrSlot37 _ | .wrSlot38 _
  | .wrSlot39 _ | .wrSlot40 _ | .wrSlot41 _ | .wrSlot42 _ | .wrSlot43 _ | .wrSlot44 _
  | .wrSlot45 _ | .wrSlot46 _ | .wrSlot47 _ | .wrSlot48 _ | .wrSlot49 _ | .wrSlot50 _
  | .wrSlot51 _ | .wrSlot52 _ | .wrSlot53 _ | .wrSlot54 _ | .wrSlot55 _ | .wrSlot56 _
  | .wrSlot57 _ | .wrSlot58 _ | .wrSlot59 _ | .wrSlot60 _ | .wrSlot61 _ | .wrSlot62 _
  | .wrSlot63 _ => none

/-- The outcome is a next state: neither a fault nor a refusal. -/
def Completes (o : Host.Outcome State Fault Refusal) : Prop := ∃ t, o = .next t

/-- A safe run: all its steps complete. -/
def RunsSafely (n : Nat) (s : State) : Prop := ∃ t : State, Host.Core.run core n s = .next t

end Sys2Proof.Machine
end

