-- ==== Sys2Proof/Certificates/Slice0/Obligations.lean ====
section
/-! DEFINITION. The statements for the provers, from the numbered rules of spec/. The functions of namespace Sys2Proof.Spec are the
spec's own pseudocode written a second time, for the statements to compare the machine with. -/

namespace Sys2Proof.Spec

open Sys2Proof.Machine

/-- The reads of the reserved slots, idx 12 to 15 and 26 to 63 (R65). -/
def reservedReads : List Instr :=
  [Instr.rdSlot12, Instr.rdSlot13, Instr.rdSlot14, Instr.rdSlot15, Instr.rdSlot26, Instr.rdSlot27, Instr.rdSlot28] ++
  [Instr.rdSlot29, Instr.rdSlot30, Instr.rdSlot31, Instr.rdSlot32, Instr.rdSlot33, Instr.rdSlot34, Instr.rdSlot35] ++
  [Instr.rdSlot36, Instr.rdSlot37, Instr.rdSlot38, Instr.rdSlot39, Instr.rdSlot40, Instr.rdSlot41, Instr.rdSlot42] ++
  [Instr.rdSlot43, Instr.rdSlot44, Instr.rdSlot45, Instr.rdSlot46, Instr.rdSlot47, Instr.rdSlot48, Instr.rdSlot49] ++
  [Instr.rdSlot50, Instr.rdSlot51, Instr.rdSlot52, Instr.rdSlot53, Instr.rdSlot54, Instr.rdSlot55, Instr.rdSlot56] ++
  [Instr.rdSlot57, Instr.rdSlot58, Instr.rdSlot59, Instr.rdSlot60, Instr.rdSlot61, Instr.rdSlot62, Instr.rdSlot63]

/-- The writes of `v` to the read-only registers and to the reserved slots (R65, R132). -/
def inertWrites (v : Word) : List Instr :=
  [Instr.wrStatus v, Instr.wrKeyLen v, Instr.wrCodeLen v, Instr.wrCodeVal v, Instr.wrCode0 v, Instr.wrCode1 v, Instr.wrCode2 v] ++
  [Instr.wrCode3 v, Instr.wrCode4 v, Instr.wrCode5 v, Instr.wrCode6 v, Instr.wrCode7 v, Instr.wrCode8 v, Instr.wrCode9 v] ++
  [Instr.wrSlot12 v, Instr.wrSlot13 v, Instr.wrSlot14 v, Instr.wrSlot15 v, Instr.wrSlot26 v, Instr.wrSlot27 v, Instr.wrSlot28 v] ++
  [Instr.wrSlot29 v, Instr.wrSlot30 v, Instr.wrSlot31 v, Instr.wrSlot32 v, Instr.wrSlot33 v, Instr.wrSlot34 v, Instr.wrSlot35 v] ++
  [Instr.wrSlot36 v, Instr.wrSlot37 v, Instr.wrSlot38 v, Instr.wrSlot39 v, Instr.wrSlot40 v, Instr.wrSlot41 v, Instr.wrSlot42 v] ++
  [Instr.wrSlot43 v, Instr.wrSlot44 v, Instr.wrSlot45 v, Instr.wrSlot46 v, Instr.wrSlot47 v, Instr.wrSlot48 v, Instr.wrSlot49 v] ++
  [Instr.wrSlot50 v, Instr.wrSlot51 v, Instr.wrSlot52 v, Instr.wrSlot53 v, Instr.wrSlot54 v, Instr.wrSlot55 v, Instr.wrSlot56 v] ++
  [Instr.wrSlot57 v, Instr.wrSlot58 v, Instr.wrSlot59 v, Instr.wrSlot60 v, Instr.wrSlot61 v, Instr.wrSlot62 v, Instr.wrSlot63 v]

/-- The rows of illegal command words without an operand (R96). -/
def illegalOpcodes : List Instr :=
  [Instr.illegalOpc0, Instr.illegalOpc5, Instr.illegalOpc6, Instr.illegalOpc7, Instr.illegalOpc8, Instr.illegalOpc9] ++
  [Instr.illegalOpc10, Instr.illegalOpc11, Instr.illegalOpc12, Instr.illegalOpc13, Instr.illegalOpc14, Instr.illegalOpc15]

/-- The rows of illegal command words with a reserved bit set (R96). -/
def illegalReserved (w : Word) : List Instr :=
  [Instr.illegalRsvd4 w, Instr.illegalRsvd5 w, Instr.illegalRsvd6 w, Instr.illegalRsvd7 w, Instr.illegalRsvd8 w, Instr.illegalRsvd9 w, Instr.illegalRsvd10 w] ++
  [Instr.illegalRsvd11 w, Instr.illegalRsvd12 w, Instr.illegalRsvd13 w, Instr.illegalRsvd14 w, Instr.illegalRsvd15 w, Instr.illegalRsvd16 w, Instr.illegalRsvd17 w] ++
  [Instr.illegalRsvd18 w, Instr.illegalRsvd19 w, Instr.illegalRsvd20 w, Instr.illegalRsvd21 w, Instr.illegalRsvd22 w, Instr.illegalRsvd23 w, Instr.illegalRsvd24 w] ++
  [Instr.illegalRsvd25 w, Instr.illegalRsvd26 w, Instr.illegalRsvd27 w, Instr.illegalRsvd28 w, Instr.illegalRsvd29 w, Instr.illegalRsvd30 w, Instr.illegalRsvd31 w]

/-- The state after a read that returned `v`, the record unchanged (R62, R120). -/
def answered (s : State) (v : Word) : State := { s with response := some v }

/-- The state after a write that left the record at `S`; a write returns nothing (R62, R121). -/
def written (s : State) (S : OtpState) : State := { s with otp := S, response := none }

/-- `RegRead(idx)` of R120. -/
def regRead (idx : Idx) (S : OtpState) : Word :=
  if idx = 1#6 then BitVec.ofNat 32 (S.ok.toNat + 2 * S.err.toNat + 16 * S.errCode.toNat + 256 * S.keyOvf.toNat)
  else if idx = 2#6 then S.digits
  else if idx = 3#6 then S.window
  else if idx = 4#6 then S.counter.extractLsb' 0 32
  else if idx = 5#6 then S.counter.extractLsb' 32 32
  else if idx = 6#6 then S.now.extractLsb' 0 32
  else if idx = 7#6 then S.now.extractLsb' 32 32
  else if idx = 9#6 then BitVec.ofNat 32 S.keyLen
  else if idx = 10#6 then BitVec.ofNat 32 S.codeLen
  else if idx = 11#6 then S.codeVal
  else if h : 16 ≤ idx.toNat ∧ idx.toNat ≤ 25 then (S.code[idx.toNat - 16]'(by omega)).setWidth 32
  else 0#32

/-- `key_push(b)` of R127. -/
def pushed (keyMax : Nat) (b : Byte) (S : OtpState) : OtpState :=
  if S.keyLen < keyMax then { S with key := S.key.set S.keyLen b, keyLen := S.keyLen + 1 }
  else { S with keyOvf := true }

/-- `RegWrite(idx, v)` of R121 for every index but CMD. -/
def regWrite (keyMax : Nat) (idx : Idx) (v : Word) (S : OtpState) : OtpState :=
  if idx = 2#6 then { S with digits := v }
  else if idx = 3#6 then { S with window := v }
  else if idx = 4#6 then { S with counter := S.counter.extractLsb' 32 32 ++ v }
  else if idx = 5#6 then { S with counter := v ++ S.counter.extractLsb' 0 32 }
  else if idx = 6#6 then { S with now := S.now.extractLsb' 32 32 ++ v }
  else if idx = 7#6 then { S with now := v ++ S.now.extractLsb' 0 32 }
  else if idx = 8#6 then pushed keyMax (v.extractLsb' 0 8) S
  else S

/-- The record with the outcome fields of a failure with code `E` (R29). -/
def failed (E : BitVec 4) (S : OtpState) : OtpState := { S with ok := false, err := true, errCode := E }

/-- The record after `fail(E)` of a HOTP or TOTP command (R236): no code, no key, the failure's code. -/
def callFailed (keyMax : Nat) (E : BitVec 4) (S : OtpState) : OtpState :=
  failed E { S with code := Vector.replicate 10 0#8, codeLen := 0, codeVal := 0#32,
                    key := List.replicate keyMax 0#8, keyLen := 0, keyOvf := false }

/-- The code value of `hotp_fn` (R176): the truncated MAC of the counter, modulo `10^d`. -/
def codeValue (key : List Byte) (c : DWord) (d : Nat) : Nat :=
  dtValue (hmacSha1 key (encodeCounter c)) % 10 ^ d

/-- The code buffer that holds `code` with `d` characters (R38, R174, R179). -/
def codeBuffer (code d : Nat) : Vector Byte 10 :=
  Vector.ofFn fun i : Fin 10 =>
    if i.val < d then BitVec.ofNat 8 (0x30 + code / 10 ^ (d - 1 - i.val) % 10) else 0#8

/-- The record after a successful HOTP or TOTP with the counter `c` (R179, R205). -/
def callSucceeded (keyMax : Nat) (c : DWord) (S : OtpState) : OtpState :=
  { S with
    code := codeBuffer (codeValue (S.key.take S.keyLen) c S.digits.toNat) S.digits.toNat
    codeLen := S.digits.toNat
    codeVal := BitVec.ofNat 32 (codeValue (S.key.take S.keyLen) c S.digits.toNat)
    key := List.replicate keyMax 0#8, keyLen := 0, keyOvf := false
    ok := true, err := false, errCode := 0#4 }

/-- The conditions under which HOTP passes its validation (R178). -/
def HotpPasses (S : OtpState) : Prop := 1 ≤ S.digits.toNat ∧ S.digits.toNat ≤ 10 ∧ S.keyOvf = false

/-- The conditions under which TOTP passes its validation (R203). -/
def TotpPasses (S : OtpState) : Prop :=
  1 ≤ S.digits.toNat ∧ S.digits.toNat ≤ 10 ∧ S.window ≠ 0#32 ∧ 0 ≤ S.now.toInt ∧ S.keyOvf = false

/-- The counter of a TOTP that passes: `floor(now / window)` (R200). -/
def timeStep (S : OtpState) : DWord := BitVec.ofNat 64 (S.now.toInt / S.window.toNat).toNat

/-- The instruction is a write to CMD: a command word, or `WR CMD` (R90). -/
def WritesCmd (i : Instr) : Prop := commandOf i ≠ none

/-- The instruction runs the command `c` (R94, R126). -/
def Runs (c : Cmd) (i : Instr) : Prop := commandOf i = some c

/-- Two records that agree in everything but the key bytes. -/
def SameButKey (S S' : OtpState) : Prop := S' = { S with key := S'.key }

/-- Two records that agree in everything but the code buffer. -/
def SameButCode (S S' : OtpState) : Prop :=
  S' = { S with code := S'.code, codeLen := S'.codeLen, codeVal := S'.codeVal }

/-- Two records that agree in everything but the outcome fields OK, ERR and ERRCODE (R29). -/
def SameButOutcome (S S' : OtpState) : Prop := S' = { S with ok := S'.ok, err := S'.err, errCode := S'.errCode }

/-- The ten values STATUS can have while R31's invariants hold. -/
def statusValues : List Word :=
  [0x000#32, 0x001#32, 0x012#32, 0x032#32, 0x042#32, 0x100#32, 0x101#32, 0x112#32, 0x132#32, 0x142#32]

/-- `f(t, b, c, d)` of R147. -/
def choose (t : Nat) (b c d : Word) : Word :=
  if t ≤ 19 then (b &&& c) ||| (~~~b &&& d)
  else if 40 ≤ t ∧ t ≤ 59 then (b &&& c) ||| (b &&& d) ||| (c &&& d)
  else b ^^^ c ^^^ d

/-- `K(t)` of R147. -/
def constant (t : Nat) : Word :=
  if t ≤ 19 then 0x5A827999#32 else if t ≤ 39 then 0x6ED9EBA1#32
  else if t ≤ 59 then 0x8F1BBCDC#32 else 0xCA62C1D6#32

/-- One turn of the loop of R148 with the schedule `W`, on `(a, b, c, d, e)`. -/
def turn (W : List Word) (v : Word × Word × Word × Word × Word) (t : Nat) : Word × Word × Word × Word × Word :=
  match v with
  | (a, b, c, d, e) =>
    (a.rotateLeft 5 + choose t b c d + e + constant t + W.getD t 0#32, a, b.rotateLeft 30, c, d)

/-- The twenty bytes of a hash value, H0's most significant byte first (R149). -/
def digest (h : HashValue) : List Byte :=
  [h.a, h.b, h.c, h.d, h.e].flatMap fun x =>
    [x.extractLsb' 24 8, x.extractLsb' 16 8, x.extractLsb' 8 8, x.extractLsb' 0 8]

/-- The instructions that read the code buffer (R130, R131). -/
def codeBufferReads : List Instr :=
  [Instr.rdCodeLen, Instr.rdCodeVal, Instr.rdCode0, Instr.rdCode1, Instr.rdCode2, Instr.rdCode3] ++
  [Instr.rdCode4, Instr.rdCode5, Instr.rdCode6, Instr.rdCode7, Instr.rdCode8, Instr.rdCode9]

/-- The time a TOTP call is for: the caller's, or what the platform drives at the next draw (R103). -/
def timeOf (now : TimeSource) (s : State) : Int :=
  match now with
  | .fixed n => n
  | .current => s.drawnTime.toInt

/-- A time NOW can hold (R26). -/
def TimeFits (now : TimeSource) : Prop :=
  match now with
  | .fixed n => -2 ^ 63 ≤ n ∧ n < 2 ^ 63
  | .current => True

/-- A call may begin without CLEAR only when no partial key is loaded (R103, R264). -/
def MayOmitClear (s : State) : Prop := s.Inv ∧ s.otp.keyLen = 0

/-- The words a host reads from CODE_LEN and the CODE registers for a code (R103, R130, R131). -/
def codeRead (code d : Nat) : CallResult :=
  .code (BitVec.ofNat 32 d) ((formatCode code d).map fun ch => ch.setWidth 32)

/-- `compress` of R148. -/
def compressed (h : HashValue) (W : List Word) : HashValue :=
  match (List.range 80).foldl (turn W) (h.a, h.b, h.c, h.d, h.e) with
  | (a, b, c, d, e) => { a := h.a + a, b := h.b + b, c := h.c + c, d := h.d + d, e := h.e + e }

/-- The number a string of decimal characters denotes. -/
def decimal (str : List Byte) : Nat := str.foldl (fun n ch => 10 * n + (ch.toNat - 0x30)) 0

/-- A decimal character, one of the bytes 0x30 to 0x39 (R13). -/
def IsDecimalChar (ch : Byte) : Prop := 0x30 ≤ ch.toNat ∧ ch.toNat ≤ 0x39

end Sys2Proof.Spec

open Sys2Proof Sys2Proof.Machine

/-! ## Encoding -/

/-- Words written out from the tables of R91 to R96 decode to the instructions they stand for. -/
def Obligations.SpecWordsDecodeToTheirRows : Prop :=
  decodeTableWord 40 0x4000000001 = some (.wrCmd 1#32) ∧
  decodeTableWord 40 0x4200000008 = some (.wrDigits 8#32) ∧
  decodeTableWord 40 0x4800000132 = some (.wrKeyPush 0x132#32) ∧
  decodeTableWord 40 0x4100000007 = some (.wrStatus 7#32) ∧
  decodeTableWord 40 0x7F00000005 = some (.wrSlot63 5#32) ∧
  decodeTableWord 40 0x0A00000000 = some .rdCodeLen ∧
  decodeTableWord 40 0x1900000000 = some .rdCode9 ∧
  decodeTableWord 40 0x0C00000000 = some .rdSlot12 ∧
  decodeTableWord 32 0x00000001 = some .hotp ∧
  decodeTableWord 32 0x00000002 = some .totp ∧
  decodeTableWord 32 0x00000003 = some .ldtime ∧
  decodeTableWord 32 0x00000004 = some .clear ∧
  decodeTableWord 32 0x00000000 = some .illegalOpc0 ∧
  decodeTableWord 32 0x00000011 = some (.illegalRsvd4 0x11#32) ∧
  decodeTableWord 32 0x80000002 = some (.illegalRsvd31 0x80000002#32)

/-- Decode and encode agree, for every instruction and every operand, on words and on bytes. -/
def Obligations.DecodeOfEncodeIsTheInstruction : Prop :=
  ∀ i : Instr, wellFormed i = true →
    decodeWord (encode i) = i ∧ decodeBytes (encodeBytes i) = .ok i

/-- The other direction: no bit of a command word or of a write is lost, a read drops only `wdata` ("for a read the field is not used
and is written as 0", R91), and every word decodes to a well-formed instruction. The choice of the row of an overlapping illegal word
is the model's (log 6). -/
def Obligations.EncodeOfDecodeKeepsEveryUsedBit : Prop :=
  (∀ w : Word, encode (decodeWord (.command w)) = .command w) ∧
  (∀ t : BitVec 39, tWe t = true → encode (decodeWord (.transaction t)) = .transaction t) ∧
  (∀ t : BitVec 39, tWe t = false →
    encode (decodeWord (.transaction t)) = .transaction (readWord (tIdx t))) ∧
  (∀ b : BusWord, wellFormed (decodeWord b) = true)

/-- R95 with R94 and R96: four words are commands, every other 32-bit value is illegal. -/
def Obligations.ExactlyFourWordsAreCommands : Prop :=
  ∀ w : Word, decodeCmd w =
    if w = 0x00000001#32 then .hotp
    else if w = 0x00000002#32 then .totp
    else if w = 0x00000003#32 then .ldtime
    else if w = 0x00000004#32 then .clear
    else .illegal

/-- A command word does what the `WR CMD` that carries it does (R90, R102, R126). -/
def Obligations.CommandWordRunsAsWriteToCmd : Prop :=
  ∀ (w : Word) (s : State),
    exec (decodeWord (.command w)) s = exec (.wrCmd w) s ∧
    exec (decodeWord (.transaction (writeWord 0#6 w))) s = exec (.wrCmd w) s

/-! ## Steps, reset, completion -/

/-- A step runs the decoded word that is next; the reset event resets; with no event the core does nothing. -/
def Obligations.StepRunsTheDecodedWord : Prop :=
  (∀ (s : State) (b : BusWord) (rest : List HostEvent), s.inputs = .word b :: rest →
    step s = exec (decodeWord b) { s with inputs := rest }) ∧
  (∀ (s : State) (rest : List HostEvent), s.inputs = .reset :: rest →
    step s = .next { s with otp := OtpState.reset s.keyMax.bytes, inputs := rest, response := none }) ∧
  (∀ s : State, s.inputs = [] → step s = .next s)

/-- A word of the opcode table put before the host's other events is the instruction the very next step runs. -/
def Obligations.PlacedTableWordRunsNext : Prop :=
  ∀ (s : State) (nbits w : Nat) (i : Instr), decodeTableWord nbits w = some i →
    step (s.withFetchWord nbits w) = exec i s

/-- R260 with R20: a reset gives every field of the record its reset value, whatever it held; the state after reset has them too. -/
def Obligations.ResetGivesEveryFieldItsValue : Prop :=
  ∀ (s : State) (rest : List HostEvent), s.inputs = .reset :: rest →
    ∃ t : State, step s = .next t ∧
      t.otp.digits = 6#32 ∧ t.otp.window = 30#32 ∧ t.otp.counter = 0#64 ∧ t.otp.now = 0#64 ∧
      t.otp.key = List.replicate s.keyMax.bytes 0#8 ∧ t.otp.keyLen = 0 ∧ t.otp.keyOvf = false ∧
      t.otp.ok = false ∧ t.otp.err = false ∧ t.otp.errCode = 0#4 ∧
      (∀ i : Fin 10, t.otp.code[i] = 0#8) ∧ t.otp.codeLen = 0 ∧ t.otp.codeVal = 0#32 ∧
      (State.resetWith s.keyMax).otp = t.otp

/-- R62: every transaction with any index and any value completes: a read returns a value and changes nothing of the core's state, a
write returns nothing. Every instruction of the opcode table completes, in every state; the host's coming events and the parameter stay
as they are. -/
def Obligations.EveryTransactionCompletes : Prop :=
  (∀ (i : Instr) (s : State), ∃ t : State, exec i s = .next t ∧ t.keyMax = s.keyMax ∧ t.inputs = s.inputs) ∧
  (∀ (x : BitVec 39) (s : State), tWe x = false →
    ∃ v : Word, exec (decodeWord (.transaction x)) s = .next { s with response := some v }) ∧
  (∀ (x : BitVec 39) (s : State), tWe x = true →
    ∃ t : State, exec (decodeWord (.transaction x)) s = .next t ∧ t.response = none)

/-- R273: every run of a finite program ends, from every state, with all its events served. -/
def Obligations.EveryFiniteRunEnds : Prop :=
  ∀ s : State, ∃ t : State, Host.Core.run core s.inputs.length s = .next t ∧ t.inputs = [] ∧ t.keyMax = s.keyMax

/-! ## Register reads and writes -/

/-- The reads of the mapped registers return their registers and change nothing else; the write-only registers read 0. -/
def Obligations.MappedReadsReturnTheirRegisters : Prop :=
  ∀ s : State,
    exec .rdCmd s = .next (Spec.answered s 0#32) ∧
    exec .rdStatus s = .next (Spec.answered s (BitVec.ofNat 32
      (s.otp.ok.toNat + 2 * s.otp.err.toNat + 16 * s.otp.errCode.toNat + 256 * s.otp.keyOvf.toNat))) ∧
    exec .rdDigits s = .next (Spec.answered s s.otp.digits) ∧
    exec .rdWindow s = .next (Spec.answered s s.otp.window) ∧
    exec .rdCounterLo s = .next (Spec.answered s (s.otp.counter.extractLsb' 0 32)) ∧
    exec .rdCounterHi s = .next (Spec.answered s (s.otp.counter.extractLsb' 32 32)) ∧
    exec .rdNowLo s = .next (Spec.answered s (s.otp.now.extractLsb' 0 32)) ∧
    exec .rdNowHi s = .next (Spec.answered s (s.otp.now.extractLsb' 32 32)) ∧
    exec .rdKeyPush s = .next (Spec.answered s 0#32) ∧
    exec .rdKeyLen s = .next (Spec.answered s (BitVec.ofNat 32 s.otp.keyLen)) ∧
    exec .rdCodeLen s = .next (Spec.answered s (BitVec.ofNat 32 s.otp.codeLen)) ∧
    exec .rdCodeVal s = .next (Spec.answered s s.otp.codeVal) ∧
    exec .rdCode0 s = .next (Spec.answered s (s.otp.code[0].setWidth 32)) ∧
    exec .rdCode1 s = .next (Spec.answered s (s.otp.code[1].setWidth 32)) ∧
    exec .rdCode2 s = .next (Spec.answered s (s.otp.code[2].setWidth 32)) ∧
    exec .rdCode3 s = .next (Spec.answered s (s.otp.code[3].setWidth 32)) ∧
    exec .rdCode4 s = .next (Spec.answered s (s.otp.code[4].setWidth 32)) ∧
    exec .rdCode5 s = .next (Spec.answered s (s.otp.code[5].setWidth 32)) ∧
    exec .rdCode6 s = .next (Spec.answered s (s.otp.code[6].setWidth 32)) ∧
    exec .rdCode7 s = .next (Spec.answered s (s.otp.code[7].setWidth 32)) ∧
    exec .rdCode8 s = .next (Spec.answered s (s.otp.code[8].setWidth 32)) ∧
    exec .rdCode9 s = .next (Spec.answered s (s.otp.code[9].setWidth 32))

/-- R33: the fields of STATUS. Bits 3:2 and 31:9 read as 0, and a write to STATUS is ignored. -/
def Obligations.StatusReadsItsFields : Prop :=
  ∀ (s : State) (v : Word),
    (∃ x : Word, exec .rdStatus s = .next (Spec.answered s x) ∧
      x.getLsbD 0 = s.otp.ok ∧ x.getLsbD 1 = s.otp.err ∧ x.extractLsb' 2 2 = 0#2 ∧
      x.extractLsb' 4 4 = s.otp.errCode ∧ x.getLsbD 8 = s.otp.keyOvf ∧ x.extractLsb' 9 23 = 0#23 ∧
      x.toNat = s.otp.ok.toNat + 2 * s.otp.err.toNat + 16 * s.otp.errCode.toNat + 256 * s.otp.keyOvf.toNat) ∧
    exec (.wrStatus v) s = .next (Spec.written s s.otp)

/-- R132: reserved slots read 0 and their writes do nothing; writes to read-only registers do nothing. No flag is set. -/
def Obligations.ReservedAndReadOnlySlotsAreInert : Prop :=
  (∀ s : State, ∀ i ∈ Spec.reservedReads,
    exec i s = .next (Spec.answered s 0#32)) ∧
  (∀ (s : State) (v : Word), ∀ i ∈ Spec.inertWrites v,
    exec i s = .next (Spec.written s s.otp))

/-- R120, complete for every index: the read of slot `idx` returns the value of the spec's table, changes no state, and its unused data
field has no part in it. -/
def Obligations.ReadTransactionsFollowTheReadTable : Prop :=
  ∀ (t : BitVec 39) (s : State), tWe t = false →
    exec (decodeWord (.transaction t)) s = .next (Spec.answered s (Spec.regRead (tIdx t) s.otp))

/-- R121, complete for every index: the write of slot `idx` changes the record as the spec's table says; slot 0 runs the command. -/
def Obligations.WriteTransactionsFollowTheWriteTable : Prop :=
  ∀ (t : BitVec 39) (s : State), tWe t = true →
    (tIdx t ≠ 0#6 → exec (decodeWord (.transaction t)) s =
      .next (Spec.written s (Spec.regWrite s.keyMax.bytes (tIdx t) (tWdata t) s.otp))) ∧
    (tIdx t = 0#6 → exec (decodeWord (.transaction t)) s =
      match decodeCmd (tWdata t) with
      | .hotp => exec .hotp s
      | .totp => exec .totp s
      | .ldtime => exec .ldtime s
      | .clear => exec .clear s
      | .illegal => .next (Spec.written s (Spec.failed 3#4 s.otp)))

/-- The writes of the operand registers store their word, or their half, and change nothing else (R121 to R125). -/
def Obligations.OperandWritesStoreTheirWord : Prop :=
  ∀ (s : State) (v : Word),
    exec (.wrDigits v) s = .next (Spec.written s { s.otp with digits := v }) ∧
    exec (.wrWindow v) s = .next (Spec.written s { s.otp with window := v }) ∧
    exec (.wrCounterLo v) s =
      .next (Spec.written s { s.otp with counter := s.otp.counter.extractLsb' 32 32 ++ v }) ∧
    exec (.wrCounterHi v) s =
      .next (Spec.written s { s.otp with counter := v ++ s.otp.counter.extractLsb' 0 32 }) ∧
    exec (.wrNowLo v) s = .next (Spec.written s { s.otp with now := s.otp.now.extractLsb' 32 32 ++ v }) ∧
    exec (.wrNowHi v) s = .next (Spec.written s { s.otp with now := v ++ s.otp.now.extractLsb' 0 32 })

/-- A push appends the byte `v[7:0]` while the buffer has room, whatever the upper bits are, and otherwise drops it and sets KEY_OVF
(R127). A read of KEY_PUSH returns 0 and does nothing. -/
def Obligations.KeyPushAppendsOrSetsOverflow : Prop :=
  ∀ (s : State) (v : Word),
    (s.otp.keyLen < s.keyMax.bytes → exec (.wrKeyPush v) s = .next (Spec.written s
      { s.otp with key := s.otp.key.set s.otp.keyLen (v.extractLsb' 0 8), keyLen := s.otp.keyLen + 1 })) ∧
    (s.keyMax.bytes ≤ s.otp.keyLen → exec (.wrKeyPush v) s = .next (Spec.written s { s.otp with keyOvf := true })) ∧
    exec .rdKeyPush s = .next (Spec.answered s 0#32)

/-- The key the commands use grows by exactly the pushed byte, at its end (R36: "in the order the bytes were pushed"). -/
def Obligations.PushedByteEndsTheKey : Prop :=
  ∀ (s : State) (v : Word), s.Inv → s.otp.keyLen < s.keyMax.bytes →
    ∃ t : State, exec (.wrKeyPush v) s = .next t ∧
      keyOperand t.otp = keyOperand s.otp ++ [v.extractLsb' 0 8] ∧ t.otp.keyLen = s.otp.keyLen + 1

/-- A read after a write returns what was written, and writing one half leaves the other (R25, R26, R74). -/
def Obligations.ReadAfterWriteReturnsTheWord : Prop :=
  ∀ (s : State) (v : Word),
    (∃ t, exec (.wrDigits v) s = .next t ∧ exec .rdDigits t = .next (Spec.answered t v)) ∧
    (∃ t, exec (.wrWindow v) s = .next t ∧ exec .rdWindow t = .next (Spec.answered t v)) ∧
    (∃ t, exec (.wrCounterLo v) s = .next t ∧ exec .rdCounterLo t = .next (Spec.answered t v) ∧
      exec .rdCounterHi t = .next (Spec.answered t (s.otp.counter.extractLsb' 32 32))) ∧
    (∃ t, exec (.wrCounterHi v) s = .next t ∧ exec .rdCounterHi t = .next (Spec.answered t v) ∧
      exec .rdCounterLo t = .next (Spec.answered t (s.otp.counter.extractLsb' 0 32))) ∧
    (∃ t, exec (.wrNowLo v) s = .next t ∧ exec .rdNowLo t = .next (Spec.answered t v) ∧
      exec .rdNowHi t = .next (Spec.answered t (s.otp.now.extractLsb' 32 32))) ∧
    (∃ t, exec (.wrNowHi v) s = .next t ∧ exec .rdNowHi t = .next (Spec.answered t v) ∧
      exec .rdNowLo t = .next (Spec.answered t (s.otp.now.extractLsb' 0 32)))

/-! ## The commands -/

/-- HOTP (R178, R179, R236). When DIGITS is 1 to 10 and KEY_OVF is 0 it stores the code of the key and COUNTER, drops the key and
reports success. When DIGITS is 0 or above 10 it fails with INVALID_ARGUMENT, else, with KEY_OVF set, with KEY_TOO_LONG; a failure
leaves no code and no key. COUNTER, DIGITS, WINDOW and NOW stay in every case. -/
def Obligations.HotpFollowsItsPseudocode : Prop :=
  ∀ s : State,
    (Spec.HotpPasses s.otp →
      exec .hotp s = .next (Spec.written s (Spec.callSucceeded s.keyMax.bytes s.otp.counter s.otp))) ∧
    (s.otp.digits = 0#32 ∨ 10 < s.otp.digits.toNat →
      exec .hotp s = .next (Spec.written s (Spec.callFailed s.keyMax.bytes 1#4 s.otp))) ∧
    (1 ≤ s.otp.digits.toNat → s.otp.digits.toNat ≤ 10 → s.otp.keyOvf = true →
      exec .hotp s = .next (Spec.written s (Spec.callFailed s.keyMax.bytes 4#4 s.otp)))

/-- TOTP (R203, R204, R205, R236). When DIGITS is 1 to 10, WINDOW is not 0, NOW is not negative and KEY_OVF is 0 it writes
`floor(now / window)` to COUNTER and stores the code of that counter. When one of the first three is not so it fails with
INVALID_ARGUMENT, else, with KEY_OVF set, with KEY_TOO_LONG; a failure leaves no code and no key, and COUNTER as it was. NOW, DIGITS
and WINDOW stay in every case. -/
def Obligations.TotpFollowsItsPseudocode : Prop :=
  ∀ s : State,
    (Spec.TotpPasses s.otp →
      exec .totp s = .next (Spec.written s
        { Spec.callSucceeded s.keyMax.bytes (Spec.timeStep s.otp) s.otp with counter := Spec.timeStep s.otp }) ∧
      (Spec.timeStep s.otp).toNat = s.otp.now.toNat / s.otp.window.toNat ∧ (Spec.timeStep s.otp).toNat < 2 ^ 63) ∧
    (s.otp.digits = 0#32 ∨ 10 < s.otp.digits.toNat ∨ s.otp.window = 0#32 ∨ s.otp.now.msb = true →
      exec .totp s = .next (Spec.written s (Spec.callFailed s.keyMax.bytes 1#4 s.otp))) ∧
    (1 ≤ s.otp.digits.toNat → s.otp.digits.toNat ≤ 10 → s.otp.window ≠ 0#32 → s.otp.now.msb = false →
      s.otp.keyOvf = true →
      exec .totp s = .next (Spec.written s (Spec.callFailed s.keyMax.bytes 4#4 s.otp)))

/-- LDTIME puts the drawn value of `time_in` whole into NOW and reports success; the key, the code, the other operands and KEY_OVF stay
(R208). The draw is the next value the platform names, else the free value `Config.timeIn` of this draw (log 3). -/
def Obligations.LdtimeLoadsTheDrawnTime : Prop :=
  ∀ s : State,
    (∀ (x : DWord) (rest : List DWord), s.timeIn = x :: rest →
      exec .ldtime s = .next { Spec.written s { s.otp with now := x, ok := true, err := false, errCode := 0#4 } with
        timeIn := rest, draws := s.draws + 1 }) ∧
    (s.timeIn = [] →
      exec .ldtime s = .next { Spec.written s
          { s.otp with now := Config.timeIn s.draws, ok := true, err := false, errCode := 0#4 } with
        timeIn := [], draws := s.draws + 1 })

/-- CLEAR, a row of its own and the word 0x00000004 written to CMD, zeroises the key and the code, reports success, and leaves the
operand registers (R220). -/
def Obligations.ClearZeroisesKeyAndCode : Prop :=
  ∀ s : State, ∀ i ∈ [Instr.clear, Instr.wrCmd 4#32], exec i s = .next (Spec.written s
    { s.otp with
      key := List.replicate s.keyMax.bytes 0#8, keyLen := 0, keyOvf := false
      code := Vector.replicate 10 0#8, codeLen := 0, codeVal := 0#32
      ok := true, err := false, errCode := 0#4 })

/-- R222: every illegal command word sets OK 0, ERR 1, ERRCODE 3 and changes nothing else, as a row of its own and as the data of
`WR CMD`. -/
def Obligations.IllegalWordsChangeOnlyTheOutcome : Prop :=
  (∀ s : State, ∀ i ∈ Spec.illegalOpcodes,
    exec i s = .next (Spec.written s (Spec.failed 3#4 s.otp))) ∧
  (∀ (s : State) (w : Word), ∀ i ∈ Spec.illegalReserved w,
    exec i s = .next (Spec.written s (Spec.failed 3#4 s.otp))) ∧
  (∀ (s : State) (w : Word), decodeCmd w = .illegal →
    exec (.wrCmd w) s = .next (Spec.written s (Spec.failed 3#4 s.otp)))

/-- R126: `WR CMD, w` runs the command `w` encodes and completes, in every state and for every word, sets the outcome fields anew,
whatever they held, and returns nothing; `RD CMD` returns 0 and does nothing. -/
def Obligations.WriteToCmdRunsItsCommand : Prop :=
  ∀ (w : Word) (s : State),
    (∃ t, exec (.wrCmd w) s = .next t ∧ t.response = none ∧
      ((t.otp.ok = true ∧ t.otp.err = false ∧ t.otp.errCode = 0#4) ∨
        (t.otp.ok = false ∧ t.otp.err = true ∧ t.otp.errCode ∈ [1#4, 3#4, 4#4]))) ∧
    (∀ S' : OtpState, Spec.SameButOutcome s.otp S' → exec (.wrCmd w) { s with otp := S' } = exec (.wrCmd w) s) ∧
    (decodeCmd w = .hotp → exec (.wrCmd w) s = exec .hotp s) ∧
    (decodeCmd w = .totp → exec (.wrCmd w) s = exec .totp s) ∧
    (decodeCmd w = .ldtime → exec (.wrCmd w) s = exec .ldtime s) ∧
    (decodeCmd w = .clear → exec (.wrCmd w) s = exec .clear s) ∧
    (decodeCmd w = .illegal → exec (.wrCmd w) s = .next (Spec.written s (Spec.failed 3#4 s.otp))) ∧
    exec .rdCmd s = .next (Spec.answered s 0#32)

/-! ## What changes what -/

/-- R29: every write to CMD sets the outcome fields anew, to success or to a failure with its code, and from the command alone: what
OK, ERR and ERRCODE held before has no part in the next state. LDTIME and CLEAR always give success, an illegal word code 3, and HOTP and
TOTP success exactly when their validation passes. No other transaction changes the three; reset makes them all zero, which no write to
CMD does. OVERFLOW, code 2, is never produced (R233). -/
def Obligations.OnlyCommandsSetTheOutcome : Prop :=
  (∀ (i : Instr) (s t : State), exec i s = .next t →
    (Spec.WritesCmd i →
      (t.otp.ok = true ∧ t.otp.err = false ∧ t.otp.errCode = 0#4) ∨
      (t.otp.ok = false ∧ t.otp.err = true ∧
        (t.otp.errCode = 1#4 ∨ t.otp.errCode = 3#4 ∨ t.otp.errCode = 4#4))) ∧
    (Spec.Runs .hotp i → (t.otp.ok = true ↔ Spec.HotpPasses s.otp)) ∧
    (Spec.Runs .totp i → (t.otp.ok = true ↔ Spec.TotpPasses s.otp)) ∧
    (Spec.Runs .ldtime i ∨ Spec.Runs .clear i → t.otp.ok = true) ∧
    (Spec.Runs .illegal i → t.otp.errCode = 3#4) ∧
    (¬ Spec.WritesCmd i → t.otp.ok = s.otp.ok ∧ t.otp.err = s.otp.err ∧ t.otp.errCode = s.otp.errCode)) ∧
  (∀ (i : Instr) (s : State) (S' : OtpState), Spec.WritesCmd i → Spec.SameButOutcome s.otp S' →
    exec i { s with otp := S' } = exec i s) ∧
  (∀ (s : State) (rest : List HostEvent), s.inputs = .reset :: rest →
    ∃ t, step s = .next t ∧ t.otp.ok = false ∧ t.otp.err = false ∧ t.otp.errCode = 0#4)

/-- R43, the operand registers: each changes only by the writers the table names. -/
def Obligations.OperandRegistersChangeOnlyByTheirWriters : Prop :=
  ∀ (i : Instr) (s t : State), exec i s = .next t →
    (t.otp.digits ≠ s.otp.digits → ∃ v, i = .wrDigits v) ∧
    (t.otp.window ≠ s.otp.window → ∃ v, i = .wrWindow v) ∧
    (t.otp.counter ≠ s.otp.counter →
      (∃ v, i = .wrCounterLo v ∨ i = .wrCounterHi v) ∨ (Spec.Runs .totp i ∧ t.otp.ok = true)) ∧
    (t.otp.now ≠ s.otp.now → (∃ v, i = .wrNowLo v ∨ i = .wrNowHi v) ∨ Spec.Runs .ldtime i)

/-- R43, the key buffer and the code buffer: each changes only by the writers the table names. -/
def Obligations.BuffersChangeOnlyByTheirWriters : Prop :=
  ∀ (i : Instr) (s t : State), exec i s = .next t →
    ((t.otp.key, t.otp.keyLen, t.otp.keyOvf) ≠ (s.otp.key, s.otp.keyLen, s.otp.keyOvf) →
      (∃ v, i = .wrKeyPush v) ∨ Spec.Runs .hotp i ∨ Spec.Runs .totp i ∨ Spec.Runs .clear i) ∧
    ((t.otp.code, t.otp.codeLen, t.otp.codeVal) ≠ (s.otp.code, s.otp.codeLen, s.otp.codeVal) →
      Spec.Runs .hotp i ∨ Spec.Runs .totp i ∨ Spec.Runs .clear i)

/-- `time_in` is read at one point only, the LDTIME step (R245): no other instruction draws. -/
def Obligations.OnlyLdtimeDrawsTheTime : Prop :=
  ∀ (i : Instr) (s t : State), exec i s = .next t →
    (Spec.Runs .ldtime i → t.draws = s.draws + 1 ∧ t.timeIn = s.timeIn.tail) ∧
    (¬ Spec.Runs .ldtime i → t.draws = s.draws ∧ t.timeIn = s.timeIn)

/-- R37: HOTP and TOTP, succeeding or failing, CLEAR and reset leave no key; LDTIME and an illegal command word leave the key alone. -/
def Obligations.EveryCallDropsTheKey : Prop :=
  (∀ (i : Instr) (s t : State), exec i s = .next t →
    (Spec.Runs .hotp i ∨ Spec.Runs .totp i ∨ Spec.Runs .clear i →
      t.otp.key = List.replicate s.keyMax.bytes 0#8 ∧ t.otp.keyLen = 0 ∧ t.otp.keyOvf = false ∧
      keyOperand t.otp = []) ∧
    (Spec.Runs .ldtime i ∨ Spec.Runs .illegal i →
      t.otp.key = s.otp.key ∧ t.otp.keyLen = s.otp.keyLen ∧ t.otp.keyOvf = s.otp.keyOvf)) ∧
  (∀ (s : State) (rest : List HostEvent), s.inputs = .reset :: rest →
    ∃ t, step s = .next t ∧ t.otp.key = List.replicate s.keyMax.bytes 0#8 ∧ t.otp.keyLen = 0 ∧
      t.otp.keyOvf = false ∧ keyOperand t.otp = [])

/-- R237: a call either succeeds whole or fails whole: a failed HOTP or TOTP leaves no code and the four operand registers as they
were. -/
def Obligations.FailedCallsHaveNoPartialEffect : Prop :=
  ∀ (i : Instr) (s t : State), Spec.Runs .hotp i ∨ Spec.Runs .totp i → exec i s = .next t →
    (t.otp.ok = true ∧ t.otp.err = false ∧ HoldsCode t.otp ∧ t.otp.codeLen = s.otp.digits.toNat) ∨
    (t.otp.ok = false ∧ t.otp.err = true ∧ NoCode t.otp ∧
      t.otp.digits = s.otp.digits ∧ t.otp.window = s.otp.window ∧
      t.otp.counter = s.otp.counter ∧ t.otp.now = s.otp.now)

/-! ## Invariants -/

/-- The spec's invariants (R20, R31, R36, R38) hold after reset, for every capacity of the key buffer. -/
def Obligations.ResetMeetsTheInvariants : Prop :=
  ∀ k : KeyMax, (State.resetWith k).Inv

/-- R31 with the invariants of R20, R36 and R38: true after reset and kept by every step, from every state that meets them. -/
def Obligations.EveryStepKeepsTheInvariants : Prop :=
  (∀ k : KeyMax, (State.resetWith k).Inv) ∧
  (∀ s t : State, s.Inv → step s = .next t → t.Inv)

/-- While the invariants hold, STATUS reads one of ten values. R128 lists eight of them, and these are all that can be read directly
after a write to CMD: after HOTP and TOTP, which clear KEY_OVF, 0x001, 0x012 or 0x042; after any other 0x001 or 0x032, with 0x100 added
where KEY_OVF was set. The two others follow from R29, R30 and R127 (log 7). -/
def Obligations.StatusHasOneOfTenValues : Prop :=
  (∀ s : State, s.Inv →
    ∃ v ∈ Spec.statusValues, exec .rdStatus s = .next (Spec.answered s v)) ∧
  (∀ (i : Instr) (s t : State), exec i s = .next t →
    (Spec.Runs .hotp i ∨ Spec.Runs .totp i →
      ∃ v ∈ [0x001#32, 0x012#32, 0x042#32], exec .rdStatus t = .next (Spec.answered t v)) ∧
    (Spec.Runs .clear i → exec .rdStatus t = .next (Spec.answered t 0x001#32)) ∧
    (Spec.Runs .ldtime i →
      exec .rdStatus t = .next (Spec.answered t (if s.otp.keyOvf then 0x101#32 else 0x001#32))) ∧
    (Spec.Runs .illegal i →
      exec .rdStatus t = .next (Spec.answered t (if s.otp.keyOvf then 0x132#32 else 0x032#32))))

/-- R127 with R29 and R30: after a failed call a push into a full buffer sets KEY_OVF and leaves the outcome, so that STATUS then reads
the failure with 0x100 added: 0x112 or 0x142. R128, a derived rule, says these cannot be read; the model follows R29, R30 and R127
(log 7). -/
def Obligations.OverflowAfterFailureShowsInStatus : Prop :=
  ∀ (s : State) (v x : Word), s.keyMax.bytes ≤ s.otp.keyLen → x = 0x012#32 ∨ x = 0x042#32 →
    exec .rdStatus s = .next (Spec.answered s x) →
    ∃ t, exec (.wrKeyPush v) s = .next t ∧ exec .rdStatus t = .next (Spec.answered t (x + 0x100#32))

/-- R65 with R64: bits of a register above its width used read as 0. -/
def Obligations.BitsAboveTheUsedWidthReadZero : Prop :=
  ∀ s : State, s.Inv →
    (∃ v : Word, exec .rdStatus s = .next (Spec.answered s v) ∧ v.toNat < 2 ^ 9) ∧
    (∃ v : Word, exec .rdKeyLen s = .next (Spec.answered s v) ∧ v.toNat = s.otp.keyLen ∧ v.toNat < 2 ^ 9) ∧
    (∃ v : Word, exec .rdCodeLen s = .next (Spec.answered s v) ∧ v.toNat = s.otp.codeLen ∧ v.toNat < 2 ^ 4) ∧
    (∃ v : Word, exec .rdCodeVal s = .next (Spec.answered s v) ∧ v.toNat < 2 ^ 31)

/-! ## Whole-machine properties -/

/-- R36: no transaction other than a HOTP or TOTP returns or stores anything that depends on the key bytes: two states that differ only
in them answer alike and still differ only in them. -/
def Obligations.KeyBytesShowOnlyThroughCodes : Prop :=
  ∀ (i : Instr) (s : State) (S' : OtpState), Spec.SameButKey s.otp S' →
    ¬ Spec.Runs .hotp i → ¬ Spec.Runs .totp i →
    ∃ t t', exec i s = .next t ∧ exec i { s with otp := S' } = .next t' ∧
      t'.response = t.response ∧ Spec.SameButKey t.otp t'.otp

/-- "No command reads the code buffer" (R39): of two states that differ only in it, every instruction leaves records that still differ
only in it, HOTP, TOTP and CLEAR leave equal records, and every instruction that is not a read of the code buffer gives the same
answer. -/
def Obligations.CodeNeverFeedsAComputation : Prop :=
  ∀ (i : Instr) (s : State) (S' : OtpState), Spec.SameButCode s.otp S' →
    ∃ t t', exec i s = .next t ∧ exec i { s with otp := S' } = .next t' ∧
      Spec.SameButCode t.otp t'.otp ∧
      (Spec.Runs .hotp i ∨ Spec.Runs .totp i ∨ Spec.Runs .clear i → t'.otp = t.otp) ∧
      (i ∉ Spec.codeBufferReads → t'.response = t.response)

/-- The result of HOTP depends on the key bytes, COUNTER, DIGITS and KEY_OVF alone, and a success has exactly DIGITS decimal
characters (R180; KEY_OVF, which R180 does not name, is read by HOTP too, R178). -/
def Obligations.HotpIsDeterminedByKeyCounterDigits : Prop :=
  ∀ s s' : State, keyOperand s'.otp = keyOperand s.otp → s'.otp.counter = s.otp.counter →
    s'.otp.digits = s.otp.digits → s'.otp.keyOvf = s.otp.keyOvf →
    ∃ t t', exec .hotp s = .next t ∧ exec .hotp s' = .next t' ∧
      t'.otp.code = t.otp.code ∧ t'.otp.codeLen = t.otp.codeLen ∧ t'.otp.codeVal = t.otp.codeVal ∧
      t'.otp.ok = t.otp.ok ∧ t'.otp.err = t.otp.err ∧ t'.otp.errCode = t.otp.errCode ∧
      (t.otp.ok = true → t.otp.codeLen = s.otp.digits.toNat ∧
        ∀ i : Fin 10, i.val < t.otp.codeLen ↔ Spec.IsDecimalChar t.otp.code[i])

/-- Two TOTP commands whose times lie in one bucket of the window give the same code (R201, R206). -/
def Obligations.TotpIsConstantInABucket : Prop :=
  ∀ (s : State) (now' : DWord), Spec.TotpPasses s.otp → 0 ≤ now'.toInt →
    now'.toNat / s.otp.window.toNat = s.otp.now.toNat / s.otp.window.toNat →
    ∃ t t', exec .totp s = .next t ∧ exec .totp { s with otp := { s.otp with now := now' } } = .next t' ∧
      t' = { t with otp := { t.otp with now := now' } } ∧ t.otp.ok = true

/-- A TOTP and then a HOTP, with the same key loaded again, give the same code (R206). -/
def Obligations.HotpAfterTotpGivesTheSameCode : Prop :=
  ∀ s t : State, Spec.TotpPasses s.otp → exec .totp s = .next t →
    exec .hotp { t with otp := { t.otp with key := s.otp.key, keyLen := s.otp.keyLen } } = .next t

/-- CLEAR is idempotent (R221), and CLEAR followed by writes of 6, 30, 0 and 0 to the operand registers brings every field but the
outcome to its reset value (R224). -/
def Obligations.ClearAndDefaultsAreASoftReset : Prop :=
  ∀ s : State,
    (∃ t, exec .clear s = .next t ∧ exec .clear t = .next t) ∧
    (∃ t1 t2 t3 t4 t5 t6 t7, exec .clear s = .next t1 ∧ exec (.wrDigits 6#32) t1 = .next t2 ∧
      exec (.wrWindow 30#32) t2 = .next t3 ∧ exec (.wrCounterLo 0#32) t3 = .next t4 ∧
      exec (.wrCounterHi 0#32) t4 = .next t5 ∧ exec (.wrNowLo 0#32) t5 = .next t6 ∧
      exec (.wrNowHi 0#32) t6 = .next t7 ∧
      t7.otp = { OtpState.reset s.keyMax.bytes with ok := true })

/-- Writing the two halves, in either order, gives a 64-bit register the whole value and changes nothing else (R102 with R25, R26). -/
def Obligations.TwoHalvesMakeTheWholeRegister : Prop :=
  ∀ (s : State) (v : DWord),
    (∃ t u, exec (.wrCounterLo (v.extractLsb' 0 32)) s = .next t ∧ exec (.wrCounterHi (v.extractLsb' 32 32)) t = .next u ∧
      u = Spec.written s { s.otp with counter := v }) ∧
    (∃ t u, exec (.wrCounterHi (v.extractLsb' 32 32)) s = .next t ∧ exec (.wrCounterLo (v.extractLsb' 0 32)) t = .next u ∧
      u = Spec.written s { s.otp with counter := v }) ∧
    (∃ t u, exec (.wrNowLo (v.extractLsb' 0 32)) s = .next t ∧ exec (.wrNowHi (v.extractLsb' 32 32)) t = .next u ∧
      u = Spec.written s { s.otp with now := v }) ∧
    (∃ t u, exec (.wrNowHi (v.extractLsb' 32 32)) s = .next t ∧ exec (.wrNowLo (v.extractLsb' 0 32)) t = .next u ∧
      u = Spec.written s { s.otp with now := v })

/-! ## Runs of the host's transactions, for every key and every operand -/

/-- `KEYHEX` appends its bytes to the key the commands use, in order, as long as they fit, and changes nothing else (R36, R102, R264).
The pushes are events of the model's queue (log 2). -/
def Obligations.KeyPushesBuildTheKey : Prop :=
  ∀ (s : State) (key : List Byte) (rest : List HostEvent), s.Inv → s.otp.keyLen + key.length ≤ s.keyMax.bytes →
    ∃ t : State, Host.Core.run core key.length { s with inputs := hostEvents (keyHex key) ++ rest } = .next t ∧
      t.inputs = rest ∧ keyOperand t.otp = keyOperand s.otp ++ key ∧ t.otp.keyLen = s.otp.keyLen + key.length ∧
      t.keyMax = s.keyMax ∧ t.otp = { s.otp with key := t.otp.key, keyLen := t.otp.keyLen }

/-- The library call `HOTP(key, counter, digits)` of R103 up to its command, with every key that fits, the writes in any order, with CLEAR
first or, where no partial key is loaded, without: the code registers hold the value `hotp_fn` gives, the call reports success, and no
key remains. The transactions are events of the model's queue (log 2). -/
def Obligations.HotpCallComputesTheFunction : Prop :=
  ∀ (s : State) (key : List Byte) (c : DWord) (d : Word) (partialKey : Bool) (order : List Instr) (rest : List HostEvent),
    InAnyOrder order (hotpWrites key c d) → (partialKey = false → Spec.MayOmitClear s) →
    key.length ≤ s.keyMax.bytes → 1 ≤ d.toNat → d.toNat ≤ 10 →
    ∃ t : State, Host.Core.run core (callWith partialKey order .hotp).length
        { s with inputs := hostEvents (callWith partialKey order .hotp) ++ rest } = .next t ∧
      t.inputs = rest ∧ t.otp.ok = true ∧ t.otp.err = false ∧ t.otp.errCode = 0#4 ∧
      t.otp.codeLen = d.toNat ∧ t.otp.codeVal = BitVec.ofNat 32 (Spec.codeValue key c d.toNat) ∧
      t.otp.code = Spec.codeBuffer (Spec.codeValue key c d.toNat) d.toNat ∧
      t.otp.keyLen = 0 ∧ t.otp.key = List.replicate s.keyMax.bytes 0#8 ∧ t.otp.keyOvf = false ∧
      t.otp.counter = c ∧ t.otp.digits = d ∧ t.otp.window = s.otp.window ∧ t.otp.now = s.otp.now

/-- The library call `TOTP(key, digits, window_seconds, now)` of R103 up to its command, with every key that fits, the writes in any
order, the time fixed by the caller or taken by LDTIME, with CLEAR first or, where no partial key is loaded, without: the code of the
counter `floor(now / window)`, which COUNTER then holds. The transactions are events of the model's queue (log 2), and the platform's
time is the model's draw (log 3). -/
def Obligations.TotpCallComputesTheFunction : Prop :=
  ∀ (s : State) (key : List Byte) (d w : Word) (now : TimeSource) (partialKey : Bool) (order : List Instr)
    (rest : List HostEvent),
    InAnyOrder order (totpWrites key d w now) → (partialKey = false → Spec.MayOmitClear s) →
    key.length ≤ s.keyMax.bytes → 1 ≤ d.toNat → d.toNat ≤ 10 → w ≠ 0#32 → Spec.TimeFits now → 0 ≤ Spec.timeOf now s →
    ∃ t : State, Host.Core.run core (callWith partialKey order .totp).length
        { s with inputs := hostEvents (callWith partialKey order .totp) ++ rest } = .next t ∧
      t.inputs = rest ∧ t.otp.ok = true ∧ t.otp.err = false ∧ t.otp.errCode = 0#4 ∧
      t.otp.now.toInt = Spec.timeOf now s ∧ t.otp.counter.toNat = (Spec.timeOf now s).toNat / w.toNat ∧
      t.otp.codeLen = d.toNat ∧ t.otp.codeVal = BitVec.ofNat 32 (Spec.codeValue key t.otp.counter d.toNat) ∧
      t.otp.code = Spec.codeBuffer (Spec.codeValue key t.otp.counter d.toNat) d.toNat ∧
      t.otp.keyLen = 0 ∧ t.otp.key = List.replicate s.keyMax.bytes 0#8 ∧ t.otp.keyOvf = false ∧
      t.otp.digits = d ∧ t.otp.window = w

/-- The library calls whole, with the reads of R103 after the command: STATUS, then, if OK, CODE_LEN and the characters. The caller gets
the string `hotp_fn` gives, or, for digits out of range, a window of 0 or a negative time, the failure INVALID_ARGUMENT, or, for a key
that does not fit, KEY_TOO_LONG. The transactions come before the events that wait (log 2); the platform's time is the model's draw
(log 3). -/
def Obligations.LibraryCallsReturnTheString : Prop :=
  (∀ (s : State) (key : List Byte) (c : DWord) (d : Word) (partialKey : Bool),
    (partialKey = false → Spec.MayOmitClear s) →
    (1 ≤ d.toNat → d.toNat ≤ 10 → key.length ≤ s.keyMax.bytes →
      ∃ t, hotpLibrary partialKey key c d s = .next (t, Spec.codeRead (Spec.codeValue key c d.toNat) d.toNat)) ∧
    (d = 0#32 ∨ 10 < d.toNat →
      ∃ t, hotpLibrary partialKey key c d s = .next (t, .failure 0x012#32)) ∧
    (1 ≤ d.toNat → d.toNat ≤ 10 → s.keyMax.bytes < key.length →
      ∃ t, hotpLibrary partialKey key c d s = .next (t, .failure 0x042#32))) ∧
  (∀ (s : State) (key : List Byte) (d w : Word) (now : TimeSource) (partialKey : Bool),
    (partialKey = false → Spec.MayOmitClear s) → Spec.TimeFits now →
    (1 ≤ d.toNat → d.toNat ≤ 10 → w ≠ 0#32 → 0 ≤ Spec.timeOf now s → key.length ≤ s.keyMax.bytes →
      ∃ t, totpLibrary partialKey key d w now s = .next (t, Spec.codeRead
        (Spec.codeValue key (BitVec.ofNat 64 ((Spec.timeOf now s).toNat / w.toNat)) d.toNat) d.toNat)) ∧
    (d = 0#32 ∨ 10 < d.toNat ∨ w = 0#32 ∨ Spec.timeOf now s < 0 →
      ∃ t, totpLibrary partialKey key d w now s = .next (t, .failure 0x012#32)) ∧
    (1 ≤ d.toNat → d.toNat ≤ 10 → w ≠ 0#32 → 0 ≤ Spec.timeOf now s → s.keyMax.bytes < key.length →
      ∃ t, totpLibrary partialKey key d w now s = .next (t, .failure 0x042#32)))

/-! ## The functions -/

/-- R140: `encode` is the eight bytes of the counter, the most significant first; no bit of it is lost (R141). -/
def Obligations.CounterIsEncodedBigEndian : Prop :=
  ∀ c : DWord,
    encodeCounter c = [c.extractLsb' 56 8, c.extractLsb' 48 8, c.extractLsb' 40 8, c.extractLsb' 32 8,
      c.extractLsb' 24 8, c.extractLsb' 16 8, c.extractLsb' 8 8, c.extractLsb' 0 8] ∧
    beUint (encodeCounter c) = c.toNat

/-- R143: the padded message is the message, 0x80, the least number of zero bytes that leaves 56 modulo 64, and the length in bits as a
64-bit big-endian number; its length is 64 times the number of blocks. -/
def Obligations.PaddingFillsWholeBlocks : Prop :=
  ∀ m : List Byte, ∃ k : Nat,
    pad m = m ++ [0x80#8] ++ List.replicate k 0#8 ++ beBytes 8 (8 * m.length) ∧
    (m.length + 1 + k) % 64 = 56 ∧ (∀ j < k, (m.length + 1 + j) % 64 ≠ 56) ∧
    (pad m).length = 64 * blockCount m.length ∧ blockCount m.length = (m.length + 8) / 64 + 1

/-- R144 and R146 with the rotation of R11: block `i` is bytes `64 i` to `64 i + 63` of the padded message, word `t` of a block is its
bytes `4 t` to `4 t + 3`, the most significant first, and the schedule has eighty words, the block's sixteen and then the recurrence. -/
def Obligations.ScheduleFollowsItsRecurrence : Prop :=
  (∀ (x : Word) (n : Nat), 0 < n → n < 32 → rotl32 x n = x.rotateLeft n) ∧
  (∀ (p : List Byte) (i : Nat), 64 * i + 64 ≤ p.length →
    (block p i).length = 64 ∧ ∀ j < 64, (block p i).getD j 0#8 = p.getD (64 * i + j) 0#8) ∧
  (∀ b : List Byte, b.length = 64 → ∀ t < 16, (schedule b).getD t 0#32 =
    b.getD (4 * t) 0#8 ++ b.getD (4 * t + 1) 0#8 ++ b.getD (4 * t + 2) 0#8 ++ b.getD (4 * t + 3) 0#8) ∧
  (∀ b : List Byte, (schedule b).length = 80 ∧
    ∀ t, 16 ≤ t → t < 80 → (schedule b).getD t 0#32 =
      ((schedule b).getD (t - 3) 0#32 ^^^ (schedule b).getD (t - 8) 0#32 ^^^
        (schedule b).getD (t - 14) 0#32 ^^^ (schedule b).getD (t - 16) 0#32).rotateLeft 1)

/-- R142 as R145, R147, R148 and R149 compose it: compression is the spec's loop of eighty turns, then the addition of the hash value
before it; the blocks of the padded message are compressed in order, the first from the value of R145; the digest is the bytes of the
last hash value, H0's most significant first. -/
def Obligations.CompressionIsTheLoopOfEightyTurns : Prop :=
  (∀ (h : HashValue) (W : List Word), W.length = 80 → compress h W = Spec.compressed h W) ∧
  (∀ p : List Byte, hashBlocks p 0 = ⟨0x67452301#32, 0xEFCDAB89#32, 0x98BADCFE#32, 0x10325476#32, 0xC3D2E1F0#32⟩) ∧
  (∀ (p : List Byte) (n : Nat), hashBlocks p (n + 1) = Spec.compressed (hashBlocks p n) (schedule (block p n))) ∧
  (∀ m : List Byte, sha1 m = Spec.digest (hashBlocks (pad m) ((pad m).length / 64)))

/-- `sha1` and `hmac_sha1` give exactly 20 bytes on every input (R142, R152). -/
def Obligations.DigestsHaveTwentyBytes : Prop :=
  (∀ m : List Byte, (sha1 m).length = 20) ∧ (∀ k m : List Byte, (hmacSha1 k m).length = 20)

/-- R151 with R152: the MAC is the nested hash under a key block of exactly 64 bytes: the key, or its digest when it is longer than 64
bytes, then zeros. -/
def Obligations.MacIsTheNestedHashOfTheKeyBlock : Prop :=
  ∀ k text : List Byte, ∃ k' k0 : List Byte,
    (k.length > 64 → k' = sha1 k) ∧ (k.length ≤ 64 → k' = k) ∧
    k0 = k' ++ List.replicate (64 - k'.length) 0#8 ∧ k0.length = 64 ∧
    hmacSha1 k text = sha1 (k0.map (· ^^^ 0x5C#8) ++ sha1 (k0.map (· ^^^ 0x36#8) ++ text))

/-- Keys that differ only in trailing 0x00 bytes, at most 64 bytes long, have the same MAC (R153). -/
def Obligations.TrailingZeroKeyBytesDoNotCount : Prop :=
  ∀ (k text : List Byte) (n : Nat), k.length + n ≤ 64 →
    hmacSha1 (k ++ List.replicate n 0#8) text = hmacSha1 k text

/-- A key longer than 64 bytes may be replaced by its digest (R151, R267). -/
def Obligations.LongKeyMayBeReplacedByItsDigest : Prop :=
  ∀ k text : List Byte, 64 < k.length → hmacSha1 (sha1 k) text = hmacSha1 k text

/-- R170 and R171: the offset is the low four bits of the last byte of the MAC, and the value the four bytes from there on, big-endian,
without the top bit. -/
def Obligations.TruncationTakesFourBytesAtTheOffset : Prop :=
  ∀ mac : List Byte, mac.length = 20 →
    dtOffset mac = (mac.getD 19 0#8).toNat % 16 ∧
    dtValue mac = ((mac.getD (dtOffset mac) 0#8).toNat * 2 ^ 24 + (mac.getD (dtOffset mac + 1) 0#8).toNat * 2 ^ 16 +
      (mac.getD (dtOffset mac + 2) 0#8).toNat * 2 ^ 8 + (mac.getD (dtOffset mac + 3) 0#8).toNat) % 2 ^ 31

/-- R172: the slice lies inside the 20 bytes and never takes the last one, and bits 7:4 of the last byte are not used by anything. -/
def Obligations.TruncationIgnoresTheHighNibble : Prop :=
  ∀ (body : List Byte) (x y : Byte), body.length = 19 → x.extractLsb' 0 4 = y.extractLsb' 0 4 →
    dtOffset (body ++ [x]) + 3 ≤ 18 ∧ dtValue (body ++ [x]) = dtValue (body ++ [y])

/-- R173 and R174: the reduced value is below `10^d` and has 31 bits, and the string of a code below `10^d` has exactly `d` decimal
characters, the most significant first, that denote it. -/
def Obligations.FormattedCodeIsTheDecimalString : Prop :=
  (∀ value d : Nat, value < 2 ^ 31 → 1 ≤ d → d ≤ 10 →
    reduce value d = value % 10 ^ d ∧ reduce value d < 10 ^ d ∧ reduce value d < 2 ^ 31) ∧
  (∀ code d : Nat, code < 10 ^ d → 1 ≤ d → d ≤ 10 →
    (formatCode code d).length = d ∧
    (∀ i < d, (formatCode code d).getD i 0#8 = BitVec.ofNat 8 (0x30 + code / 10 ^ (d - 1 - i) % 10)) ∧
    (∀ ch ∈ formatCode code d, Spec.IsDecimalChar ch) ∧
    Spec.decimal (formatCode code d) = code)

/-- R175: ten digits keep the whole value, whose first character is '0', '1' or '2'; with at most nine digits every string of decimal
characters can occur. -/
def Obligations.TenDigitsKeepTheWholeValue : Prop :=
  (∀ value : Nat, value < 2 ^ 31 → reduce value 10 = value ∧
    (formatCode value 10).getD 0 0#8 ∈ [0x30#8, 0x31#8, 0x32#8]) ∧
  (∀ (d : Nat) (str : List Byte), 1 ≤ d → d ≤ 9 → str.length = d → (∀ ch ∈ str, Spec.IsDecimalChar ch) →
    ∃ value, value < 2 ^ 31 ∧ formatCode (reduce value d) d = str)

/-- R201 (a) to (c) with R200: the scaler is constant exactly on the buckets that start at the multiples of the window. -/
def Obligations.ScalerIsConstantOnBuckets : Prop :=
  ∀ now w : Nat, 1 ≤ w →
    (∀ q, tscale now w = q ↔ q * w ≤ now ∧ now ≤ q * w + w - 1) ∧
    tscale (now + w) w = tscale now w + 1 ∧ tscale now 1 = now ∧ (now < w → tscale now w = 0)
end

