-- ==== Sys2Proof/Laws/Decode.lean ====
section
/-! SUPPORT. The small lemmas of the decoder and the encoder: the fields of a word, and which row a word is. -/

namespace Sys2Proof

/-! ## Fields of a concatenation -/

theorem getLsbD_top_append {a b c : Nat} (x : BitVec a) (y : BitVec b) (z : BitVec c) :
    (x ++ y ++ z).getLsbD (b + c) = x.getLsbD 0 := by
  rw [BitVec.getLsbD_append, BitVec.getLsbD_append]
  simp

theorem extract_mid_append {a b c : Nat} (x : BitVec a) (y : BitVec b) (z : BitVec c) :
    (x ++ y ++ z).extractLsb' c b = y := by
  ext j hj
  simp [BitVec.getLsbD_append, hj]

theorem extract_low_append {a b c : Nat} (x : BitVec a) (y : BitVec b) (z : BitVec c) :
    (x ++ y ++ z).extractLsb' 0 c = z := by
  ext j hj
  simp [BitVec.getLsbD_append, hj]

@[simp] theorem tWe_readWord (idx : Idx) : tWe (readWord idx) = false :=
  getLsbD_top_append 0#1 idx 0#32

@[simp] theorem tWe_writeWord (idx : Idx) (v : Word) : tWe (writeWord idx v) = true :=
  getLsbD_top_append 1#1 idx v

@[simp] theorem tIdx_readWord (idx : Idx) : tIdx (readWord idx) = idx := extract_mid_append 0#1 idx 0#32

@[simp] theorem tIdx_writeWord (idx : Idx) (v : Word) : tIdx (writeWord idx v) = idx := extract_mid_append 1#1 idx v

@[simp] theorem tWdata_writeWord (idx : Idx) (v : Word) : tWdata (writeWord idx v) = v := extract_low_append 1#1 idx v

/-! ## Which row a word is -/

/-- A read word is the row of its index. -/
theorem decodeTransaction_readWord (idx : Idx) : decodeTransaction (readWord idx) = readRow idx := by
  simp [decodeTransaction]

/-- A write word is the row of its index, with its data as operand. -/
theorem decodeTransaction_writeWord (idx : Idx) (v : Word) :
    decodeTransaction (writeWord idx v) = writeRow idx v := by
  simp [decodeTransaction]

/-- A command word with a reserved bit set is the row of its lowest one. -/
theorem decodeCommand_of_lowestReserved {w : Word} {k : Nat} (h : (lowestReserved w == some k) = true) :
    decodeCommand w = rsvdRow k w := by
  simp [decodeCommand, eq_of_beq h]

/-- A command word with no reserved bit set is the row of its opcode. -/
theorem decodeCommand_of_none {w : Word} (h : lowestReserved w = none) :
    decodeCommand w = opcRow (cOpc w).toNat := by
  simp [decodeCommand, h]

end Sys2Proof
end

