-- ==== Sys2Proof/Laws/State.lean ====
section
/-! SUPPORT. One lemma per field per update of the state. -/

namespace Sys2Proof.Machine

section setSuccess
variable (S : OtpState)
@[simp] theorem setSuccess_digits : (setSuccess S).digits = S.digits := rfl
@[simp] theorem setSuccess_window : (setSuccess S).window = S.window := rfl
@[simp] theorem setSuccess_counter : (setSuccess S).counter = S.counter := rfl
@[simp] theorem setSuccess_now : (setSuccess S).now = S.now := rfl
@[simp] theorem setSuccess_key : (setSuccess S).key = S.key := rfl
@[simp] theorem setSuccess_keyLen : (setSuccess S).keyLen = S.keyLen := rfl
@[simp] theorem setSuccess_keyOvf : (setSuccess S).keyOvf = S.keyOvf := rfl
@[simp] theorem setSuccess_ok : (setSuccess S).ok = true := rfl
@[simp] theorem setSuccess_err : (setSuccess S).err = false := rfl
@[simp] theorem setSuccess_errCode : (setSuccess S).errCode = 0#4 := rfl
@[simp] theorem setSuccess_code : (setSuccess S).code = S.code := rfl
@[simp] theorem setSuccess_codeLen : (setSuccess S).codeLen = S.codeLen := rfl
@[simp] theorem setSuccess_codeVal : (setSuccess S).codeVal = S.codeVal := rfl
end setSuccess

section setFailure
variable (E : Failure) (S : OtpState)
@[simp] theorem setFailure_digits : (setFailure E S).digits = S.digits := rfl
@[simp] theorem setFailure_window : (setFailure E S).window = S.window := rfl
@[simp] theorem setFailure_counter : (setFailure E S).counter = S.counter := rfl
@[simp] theorem setFailure_now : (setFailure E S).now = S.now := rfl
@[simp] theorem setFailure_key : (setFailure E S).key = S.key := rfl
@[simp] theorem setFailure_keyLen : (setFailure E S).keyLen = S.keyLen := rfl
@[simp] theorem setFailure_keyOvf : (setFailure E S).keyOvf = S.keyOvf := rfl
@[simp] theorem setFailure_ok : (setFailure E S).ok = false := rfl
@[simp] theorem setFailure_err : (setFailure E S).err = true := rfl
@[simp] theorem setFailure_errCode : (setFailure E S).errCode = E.code := rfl
@[simp] theorem setFailure_code : (setFailure E S).code = S.code := rfl
@[simp] theorem setFailure_codeLen : (setFailure E S).codeLen = S.codeLen := rfl
@[simp] theorem setFailure_codeVal : (setFailure E S).codeVal = S.codeVal := rfl
end setFailure

section clearKey
variable (k : Nat) (S : OtpState)
@[simp] theorem clearKey_digits : (clearKey k S).digits = S.digits := rfl
@[simp] theorem clearKey_window : (clearKey k S).window = S.window := rfl
@[simp] theorem clearKey_counter : (clearKey k S).counter = S.counter := rfl
@[simp] theorem clearKey_now : (clearKey k S).now = S.now := rfl
@[simp] theorem clearKey_key : (clearKey k S).key = List.replicate k 0#8 := rfl
@[simp] theorem clearKey_keyLen : (clearKey k S).keyLen = 0 := rfl
@[simp] theorem clearKey_keyOvf : (clearKey k S).keyOvf = false := rfl
@[simp] theorem clearKey_ok : (clearKey k S).ok = S.ok := rfl
@[simp] theorem clearKey_err : (clearKey k S).err = S.err := rfl
@[simp] theorem clearKey_errCode : (clearKey k S).errCode = S.errCode := rfl
@[simp] theorem clearKey_code : (clearKey k S).code = S.code := rfl
@[simp] theorem clearKey_codeLen : (clearKey k S).codeLen = S.codeLen := rfl
@[simp] theorem clearKey_codeVal : (clearKey k S).codeVal = S.codeVal := rfl
end clearKey

section clearCode
variable (S : OtpState)
@[simp] theorem clearCode_digits : (clearCode S).digits = S.digits := rfl
@[simp] theorem clearCode_window : (clearCode S).window = S.window := rfl
@[simp] theorem clearCode_counter : (clearCode S).counter = S.counter := rfl
@[simp] theorem clearCode_now : (clearCode S).now = S.now := rfl
@[simp] theorem clearCode_key : (clearCode S).key = S.key := rfl
@[simp] theorem clearCode_keyLen : (clearCode S).keyLen = S.keyLen := rfl
@[simp] theorem clearCode_keyOvf : (clearCode S).keyOvf = S.keyOvf := rfl
@[simp] theorem clearCode_ok : (clearCode S).ok = S.ok := rfl
@[simp] theorem clearCode_err : (clearCode S).err = S.err := rfl
@[simp] theorem clearCode_errCode : (clearCode S).errCode = S.errCode := rfl
@[simp] theorem clearCode_code : (clearCode S).code = Vector.replicate 10 0#8 := rfl
@[simp] theorem clearCode_codeLen : (clearCode S).codeLen = 0 := rfl
@[simp] theorem clearCode_codeVal : (clearCode S).codeVal = 0#32 := rfl
end clearCode

section storeCode
variable (c : Nat) (str : List Byte) (d : Nat) (S : OtpState)
@[simp] theorem storeCode_digits : (storeCode c str d S).digits = S.digits := rfl
@[simp] theorem storeCode_window : (storeCode c str d S).window = S.window := rfl
@[simp] theorem storeCode_counter : (storeCode c str d S).counter = S.counter := rfl
@[simp] theorem storeCode_now : (storeCode c str d S).now = S.now := rfl
@[simp] theorem storeCode_key : (storeCode c str d S).key = S.key := rfl
@[simp] theorem storeCode_keyLen : (storeCode c str d S).keyLen = S.keyLen := rfl
@[simp] theorem storeCode_keyOvf : (storeCode c str d S).keyOvf = S.keyOvf := rfl
@[simp] theorem storeCode_ok : (storeCode c str d S).ok = S.ok := rfl
@[simp] theorem storeCode_err : (storeCode c str d S).err = S.err := rfl
@[simp] theorem storeCode_errCode : (storeCode c str d S).errCode = S.errCode := rfl
@[simp] theorem storeCode_code : (storeCode c str d S).code = codeBytes str := rfl
@[simp] theorem storeCode_codeLen : (storeCode c str d S).codeLen = d := rfl
@[simp] theorem storeCode_codeVal : (storeCode c str d S).codeVal = BitVec.ofNat 32 c := rfl
end storeCode

section setDigits
variable (v : Word) (S : OtpState)
@[simp] theorem setDigits_digits : (setDigits v S).digits = v := rfl
@[simp] theorem setDigits_window : (setDigits v S).window = S.window := rfl
@[simp] theorem setDigits_counter : (setDigits v S).counter = S.counter := rfl
@[simp] theorem setDigits_now : (setDigits v S).now = S.now := rfl
@[simp] theorem setDigits_key : (setDigits v S).key = S.key := rfl
@[simp] theorem setDigits_keyLen : (setDigits v S).keyLen = S.keyLen := rfl
@[simp] theorem setDigits_keyOvf : (setDigits v S).keyOvf = S.keyOvf := rfl
@[simp] theorem setDigits_ok : (setDigits v S).ok = S.ok := rfl
@[simp] theorem setDigits_err : (setDigits v S).err = S.err := rfl
@[simp] theorem setDigits_errCode : (setDigits v S).errCode = S.errCode := rfl
@[simp] theorem setDigits_code : (setDigits v S).code = S.code := rfl
@[simp] theorem setDigits_codeLen : (setDigits v S).codeLen = S.codeLen := rfl
@[simp] theorem setDigits_codeVal : (setDigits v S).codeVal = S.codeVal := rfl
end setDigits

section setWindow
variable (v : Word) (S : OtpState)
@[simp] theorem setWindow_digits : (setWindow v S).digits = S.digits := rfl
@[simp] theorem setWindow_window : (setWindow v S).window = v := rfl
@[simp] theorem setWindow_counter : (setWindow v S).counter = S.counter := rfl
@[simp] theorem setWindow_now : (setWindow v S).now = S.now := rfl
@[simp] theorem setWindow_key : (setWindow v S).key = S.key := rfl
@[simp] theorem setWindow_keyLen : (setWindow v S).keyLen = S.keyLen := rfl
@[simp] theorem setWindow_keyOvf : (setWindow v S).keyOvf = S.keyOvf := rfl
@[simp] theorem setWindow_ok : (setWindow v S).ok = S.ok := rfl
@[simp] theorem setWindow_err : (setWindow v S).err = S.err := rfl
@[simp] theorem setWindow_errCode : (setWindow v S).errCode = S.errCode := rfl
@[simp] theorem setWindow_code : (setWindow v S).code = S.code := rfl
@[simp] theorem setWindow_codeLen : (setWindow v S).codeLen = S.codeLen := rfl
@[simp] theorem setWindow_codeVal : (setWindow v S).codeVal = S.codeVal := rfl
end setWindow

section setCounterLo
variable (v : Word) (S : OtpState)
@[simp] theorem setCounterLo_digits : (setCounterLo v S).digits = S.digits := rfl
@[simp] theorem setCounterLo_window : (setCounterLo v S).window = S.window := rfl
@[simp] theorem setCounterLo_counter : (setCounterLo v S).counter = joinHalves (hiHalf S.counter) v := rfl
@[simp] theorem setCounterLo_now : (setCounterLo v S).now = S.now := rfl
@[simp] theorem setCounterLo_key : (setCounterLo v S).key = S.key := rfl
@[simp] theorem setCounterLo_keyLen : (setCounterLo v S).keyLen = S.keyLen := rfl
@[simp] theorem setCounterLo_keyOvf : (setCounterLo v S).keyOvf = S.keyOvf := rfl
@[simp] theorem setCounterLo_ok : (setCounterLo v S).ok = S.ok := rfl
@[simp] theorem setCounterLo_err : (setCounterLo v S).err = S.err := rfl
@[simp] theorem setCounterLo_errCode : (setCounterLo v S).errCode = S.errCode := rfl
@[simp] theorem setCounterLo_code : (setCounterLo v S).code = S.code := rfl
@[simp] theorem setCounterLo_codeLen : (setCounterLo v S).codeLen = S.codeLen := rfl
@[simp] theorem setCounterLo_codeVal : (setCounterLo v S).codeVal = S.codeVal := rfl
end setCounterLo

section setCounterHi
variable (v : Word) (S : OtpState)
@[simp] theorem setCounterHi_digits : (setCounterHi v S).digits = S.digits := rfl
@[simp] theorem setCounterHi_window : (setCounterHi v S).window = S.window := rfl
@[simp] theorem setCounterHi_counter : (setCounterHi v S).counter = joinHalves v (loHalf S.counter) := rfl
@[simp] theorem setCounterHi_now : (setCounterHi v S).now = S.now := rfl
@[simp] theorem setCounterHi_key : (setCounterHi v S).key = S.key := rfl
@[simp] theorem setCounterHi_keyLen : (setCounterHi v S).keyLen = S.keyLen := rfl
@[simp] theorem setCounterHi_keyOvf : (setCounterHi v S).keyOvf = S.keyOvf := rfl
@[simp] theorem setCounterHi_ok : (setCounterHi v S).ok = S.ok := rfl
@[simp] theorem setCounterHi_err : (setCounterHi v S).err = S.err := rfl
@[simp] theorem setCounterHi_errCode : (setCounterHi v S).errCode = S.errCode := rfl
@[simp] theorem setCounterHi_code : (setCounterHi v S).code = S.code := rfl
@[simp] theorem setCounterHi_codeLen : (setCounterHi v S).codeLen = S.codeLen := rfl
@[simp] theorem setCounterHi_codeVal : (setCounterHi v S).codeVal = S.codeVal := rfl
end setCounterHi

section setNowLo
variable (v : Word) (S : OtpState)
@[simp] theorem setNowLo_digits : (setNowLo v S).digits = S.digits := rfl
@[simp] theorem setNowLo_window : (setNowLo v S).window = S.window := rfl
@[simp] theorem setNowLo_counter : (setNowLo v S).counter = S.counter := rfl
@[simp] theorem setNowLo_now : (setNowLo v S).now = joinHalves (hiHalf S.now) v := rfl
@[simp] theorem setNowLo_key : (setNowLo v S).key = S.key := rfl
@[simp] theorem setNowLo_keyLen : (setNowLo v S).keyLen = S.keyLen := rfl
@[simp] theorem setNowLo_keyOvf : (setNowLo v S).keyOvf = S.keyOvf := rfl
@[simp] theorem setNowLo_ok : (setNowLo v S).ok = S.ok := rfl
@[simp] theorem setNowLo_err : (setNowLo v S).err = S.err := rfl
@[simp] theorem setNowLo_errCode : (setNowLo v S).errCode = S.errCode := rfl
@[simp] theorem setNowLo_code : (setNowLo v S).code = S.code := rfl
@[simp] theorem setNowLo_codeLen : (setNowLo v S).codeLen = S.codeLen := rfl
@[simp] theorem setNowLo_codeVal : (setNowLo v S).codeVal = S.codeVal := rfl
end setNowLo

section setNowHi
variable (v : Word) (S : OtpState)
@[simp] theorem setNowHi_digits : (setNowHi v S).digits = S.digits := rfl
@[simp] theorem setNowHi_window : (setNowHi v S).window = S.window := rfl
@[simp] theorem setNowHi_counter : (setNowHi v S).counter = S.counter := rfl
@[simp] theorem setNowHi_now : (setNowHi v S).now = joinHalves v (loHalf S.now) := rfl
@[simp] theorem setNowHi_key : (setNowHi v S).key = S.key := rfl
@[simp] theorem setNowHi_keyLen : (setNowHi v S).keyLen = S.keyLen := rfl
@[simp] theorem setNowHi_keyOvf : (setNowHi v S).keyOvf = S.keyOvf := rfl
@[simp] theorem setNowHi_ok : (setNowHi v S).ok = S.ok := rfl
@[simp] theorem setNowHi_err : (setNowHi v S).err = S.err := rfl
@[simp] theorem setNowHi_errCode : (setNowHi v S).errCode = S.errCode := rfl
@[simp] theorem setNowHi_code : (setNowHi v S).code = S.code := rfl
@[simp] theorem setNowHi_codeLen : (setNowHi v S).codeLen = S.codeLen := rfl
@[simp] theorem setNowHi_codeVal : (setNowHi v S).codeVal = S.codeVal := rfl
end setNowHi

section completeRead
variable (s : State) (v : Word)
@[simp] theorem State.completeRead_keyMax : (s.completeRead v).keyMax = s.keyMax := rfl
@[simp] theorem State.completeRead_otp : (s.completeRead v).otp = s.otp := rfl
@[simp] theorem State.completeRead_inputs : (s.completeRead v).inputs = s.inputs := rfl
@[simp] theorem State.completeRead_response : (s.completeRead v).response = some v := rfl
@[simp] theorem State.completeRead_timeIn : (s.completeRead v).timeIn = s.timeIn := rfl
@[simp] theorem State.completeRead_draws : (s.completeRead v).draws = s.draws := rfl
end completeRead

section completeWrite
variable (s : State) (S : OtpState)
@[simp] theorem State.completeWrite_keyMax : (s.completeWrite S).keyMax = s.keyMax := rfl
@[simp] theorem State.completeWrite_otp : (s.completeWrite S).otp = S := rfl
@[simp] theorem State.completeWrite_inputs : (s.completeWrite S).inputs = s.inputs := rfl
@[simp] theorem State.completeWrite_response : (s.completeWrite S).response = none := rfl
@[simp] theorem State.completeWrite_timeIn : (s.completeWrite S).timeIn = s.timeIn := rfl
@[simp] theorem State.completeWrite_draws : (s.completeWrite S).draws = s.draws := rfl
end completeWrite

section afterDraw
variable (s : State)
@[simp] theorem State.afterDraw_keyMax : (s.afterDraw).keyMax = s.keyMax := rfl
@[simp] theorem State.afterDraw_otp : (s.afterDraw).otp = s.otp := rfl
@[simp] theorem State.afterDraw_inputs : (s.afterDraw).inputs = s.inputs := rfl
@[simp] theorem State.afterDraw_response : (s.afterDraw).response = s.response := rfl
@[simp] theorem State.afterDraw_timeIn : (s.afterDraw).timeIn = s.timeIn.tail := rfl
@[simp] theorem State.afterDraw_draws : (s.afterDraw).draws = s.draws + 1 := rfl
end afterDraw

section putEvent
variable (s : State) (e : HostEvent)
@[simp] theorem State.putEvent_keyMax : (s.putEvent e).keyMax = s.keyMax := rfl
@[simp] theorem State.putEvent_otp : (s.putEvent e).otp = s.otp := rfl
@[simp] theorem State.putEvent_inputs : (s.putEvent e).inputs = e :: s.inputs := rfl
@[simp] theorem State.putEvent_response : (s.putEvent e).response = s.response := rfl
@[simp] theorem State.putEvent_timeIn : (s.putEvent e).timeIn = s.timeIn := rfl
@[simp] theorem State.putEvent_draws : (s.putEvent e).draws = s.draws := rfl
end putEvent

section resetEvent
variable (s : State)
@[simp] theorem State.resetEvent_keyMax : (s.resetEvent).keyMax = s.keyMax := rfl
@[simp] theorem State.resetEvent_otp : (s.resetEvent).otp = OtpState.reset s.keyMax.bytes := rfl
@[simp] theorem State.resetEvent_inputs : (s.resetEvent).inputs = s.inputs := rfl
@[simp] theorem State.resetEvent_response : (s.resetEvent).response = none := rfl
@[simp] theorem State.resetEvent_timeIn : (s.resetEvent).timeIn = s.timeIn := rfl
@[simp] theorem State.resetEvent_draws : (s.resetEvent).draws = s.draws := rfl
end resetEvent

end Sys2Proof.Machine
end

