-- ==== Sys2Proof/Laws/Ops.lean ====
section
/-! SUPPORT. One lemma per shared operation: everything it can do. Later proofs cite these and do not unfold the operations. -/

namespace Sys2Proof.Machine

/-! ## The parameter KEY_MAX (spec/00_scope.md R8) -/

theorem KeyMax_bytes_bounds (k : KeyMax) : 4 ≤ k.bytes ∧ k.bytes ≤ 256 ∧ k.bytes % 4 = 0 := by
  have := k.quarterLessOne.isLt
  simp only [KeyMax.bytes]
  omega

theorem KeyMax_reference_bytes : KeyMax.reference.bytes = 128 := by decide

theorem KeyMax_least_bytes : KeyMax.least.bytes = 4 := by decide

/-! ## Byte sequences -/

@[simp] theorem beBytes_length (n v : Nat) : (beBytes n v).length = n := by
  simp [beBytes]

@[simp] theorem digestBytes_length (h : HashValue) : (digestBytes h).length = 20 := by
  simp [digestBytes]

@[simp] theorem formatCode_length (code d : Nat) : (formatCode code d).length = d := by
  simp [formatCode]

theorem formatCode_byteAt {code d i : Nat} (h : i < d) :
    byteAt (formatCode code d) i = chr (code / 10 ^ (d - 1 - i) % 10) := by
  simp [byteAt, formatCode, h]

theorem formatCode_byteAt_of_le {code d i : Nat} (h : d ≤ i) : byteAt (formatCode code d) i = 0#8 := by
  simp [byteAt, formatCode, h]

theorem codeBytes_get (str : List Byte) (i : Fin 10) : (codeBytes str)[i] = byteAt str i.val := by
  fin_cases i <;> rfl

theorem byteAt_replicate_zero (n i : Nat) : byteAt (List.replicate n 0#8) i = 0#8 := by
  simp [byteAt, List.getD_eq_getElem?_getD, List.getElem?_replicate]
  split <;> rfl

/-! ## The key buffer -/

theorem keyPush_of_room {k : Nat} {S : OtpState} (b : Byte) (h : S.keyLen < k) :
    keyPush k b S = { S with key := S.key.set S.keyLen b, keyLen := S.keyLen + 1 } := by
  simp [keyPush, h]

theorem keyPush_of_full {k : Nat} {S : OtpState} (b : Byte) (h : k ≤ S.keyLen) :
    keyPush k b S = { S with keyOvf := true } := by
  simp [keyPush, Nat.not_lt.mpr h]

/-- Clearing the key establishes the invariant of the key buffer. -/
theorem clearKey_keyInv (k : Nat) (S : OtpState) : KeyInv k (clearKey k S) where
  size := by simp
  fill := by simp
  rest i _ := by simpa using byteAt_replicate_zero k i

/-- A push keeps the invariant of the key buffer. -/
theorem keyPush_keyInv {k : Nat} {S : OtpState} (b : Byte) (h : KeyInv k S) : KeyInv k (keyPush k b S) := by
  rcases Nat.lt_or_ge S.keyLen k with hk | hk
  · rw [keyPush_of_room b hk]
    refine ⟨by simp [h.size], hk, fun i hi => ?_⟩
    have hi : S.keyLen + 1 ≤ i := hi
    have hne : S.keyLen ≠ i := by omega
    have := h.rest i (by omega)
    simpa [byteAt, List.getD_eq_getElem?_getD, List.getElem?_set_ne hne] using this
  · rw [keyPush_of_full b hk]
    exact ⟨h.size, h.fill, h.rest⟩

/-- The buffer's invariant speaks of KEY and KEY_LEN alone. -/
theorem KeyInv.of_eq {k : Nat} {S T : OtpState} (h : KeyInv k S) (h1 : T.key = S.key) (h2 : T.keyLen = S.keyLen) :
    KeyInv k T := by
  refine ⟨h1 ▸ h.size, h2 ▸ h.fill, fun i hi => ?_⟩
  rw [h1]
  exact h.rest i (h2 ▸ hi)

/-! ## The code buffer -/

/-- Clearing the code leaves no code. -/
theorem clearCode_noCode (S : OtpState) : NoCode (clearCode S) := by
  refine ⟨rfl, fun i => ?_, rfl⟩
  fin_cases i <;> rfl

/-- Storing the string of a code that `d` digits can write establishes the invariant of the code buffer. -/
theorem storeCode_holdsCode {code d : Nat} (S : OtpState) (h1 : 1 ≤ d) (h10 : d ≤ 10) (hc : code < 10 ^ d)
    (hw : code < 2 ^ 31) : HoldsCode (storeCode code (formatCode code d) d S) := by
  have hv : (BitVec.ofNat 32 code).toNat = code := by
    simp only [BitVec.toNat_ofNat]
    omega
  refine ⟨h1, h10, by simpa [hv] using hc, by simpa [hv] using hw, fun i => ?_⟩
  simp only [storeCode_code, storeCode_codeLen, storeCode_codeVal, codeBytes_get, hv]
  split
  · next h => rw [formatCode_byteAt h]
  · next h => rw [formatCode_byteAt_of_le (Nat.le_of_not_lt h)]

/-- The code buffer's invariant speaks of CODE, CODE_LEN and CODE_VAL alone. -/
theorem CodeInv.of_eq {S T : OtpState} (h : CodeInv S) (h1 : T.code = S.code) (h2 : T.codeLen = S.codeLen)
    (h3 : T.codeVal = S.codeVal) : CodeInv T := by
  rcases h with h | h
  · exact .inl ⟨h2 ▸ h.len, fun i => by rw [h1]; exact h.chars i, h3 ▸ h.value⟩
  · refine .inr ⟨h2 ▸ h.lenPos, h2 ▸ h.lenMax, by rw [h2, h3]; exact h.value, by rw [h3]; exact h.width, fun i => ?_⟩
    rw [h1, h2, h3]
    exact h.chars i

/-! ## Truncation and reduction -/

theorem dtValue_lt (mac : List Byte) : dtValue mac < 2 ^ 31 := by
  rw [dtValue, show (0x7FFFFFFF : Nat) = 2 ^ 31 - 1 by norm_num, Nat.and_two_pow_sub_one_eq_mod]
  exact Nat.mod_lt _ (by norm_num)

theorem hotpCode_lt_pow (key : List Byte) (c : DWord) (d : Nat) : hotpCode key c d < 10 ^ d :=
  Nat.mod_lt _ (Nat.pow_pos (by norm_num))

theorem hotpCode_lt (key : List Byte) (c : DWord) (d : Nat) : hotpCode key c d < 2 ^ 31 :=
  Nat.lt_of_le_of_lt (Nat.mod_le _ _) (dtValue_lt _)

/-! ## Validation -/

/-- When HOTP passes (spec/42_hotp.md R178). -/
theorem validateHotp_eq_none_iff (S : OtpState) :
    validateHotp S = none ↔ 1 ≤ S.digits.toNat ∧ S.digits.toNat ≤ 10 ∧ S.keyOvf = false := by
  unfold validateHotp
  split_ifs with h0 h1 h2 <;> simp_all [digitsOperand]
  omega

/-- How HOTP fails (R178). -/
theorem validateHotp_eq_some {S : OtpState} {E : Failure} (h : validateHotp S = some E) :
    (E = .invalidArgument ∧ (S.digits.toNat = 0 ∨ 10 < S.digits.toNat)) ∨
    (E = .keyTooLong ∧ 1 ≤ S.digits.toNat ∧ S.digits.toNat ≤ 10 ∧ S.keyOvf = true) := by
  unfold validateHotp at h
  split_ifs at h with h0 h1 h2
  · exact .inl ⟨(Option.some.inj h).symm, .inl h0⟩
  · exact .inl ⟨(Option.some.inj h).symm, .inr h1⟩
  · exact .inr ⟨(Option.some.inj h).symm, Nat.one_le_iff_ne_zero.mpr h0, Nat.le_of_not_lt h1, h2⟩

/-- When TOTP passes (spec/43_totp.md R203). -/
theorem validateTotp_eq_none_iff (S : OtpState) :
    validateTotp S = none ↔ 1 ≤ S.digits.toNat ∧ S.digits.toNat ≤ 10 ∧ S.window.toNat ≠ 0 ∧ 0 ≤ S.now.toInt ∧
      S.keyOvf = false := by
  unfold validateTotp
  split_ifs with h0 h1 h2 h3 h4 <;> simp_all [digitsOperand, windowOperand, nowOperand]
  omega

/-- How TOTP fails (R203). -/
theorem validateTotp_eq_some {S : OtpState} {E : Failure} (h : validateTotp S = some E) :
    (E = .invalidArgument ∧ (S.digits.toNat = 0 ∨ 10 < S.digits.toNat ∨ S.window.toNat = 0 ∨ S.now.toInt < 0)) ∨
    (E = .keyTooLong ∧ 1 ≤ S.digits.toNat ∧ S.digits.toNat ≤ 10 ∧ S.window.toNat ≠ 0 ∧ 0 ≤ S.now.toInt ∧
      S.keyOvf = true) := by
  unfold validateTotp at h
  split_ifs at h with h0 h1 h2 h3 h4
  · exact .inl ⟨(Option.some.inj h).symm, .inl h0⟩
  · exact .inl ⟨(Option.some.inj h).symm, .inr (.inl h1)⟩
  · exact .inl ⟨(Option.some.inj h).symm, .inr (.inr (.inl h2))⟩
  · exact .inl ⟨(Option.some.inj h).symm, .inr (.inr (.inr h3))⟩
  · exact .inr ⟨(Option.some.inj h).symm, Nat.one_le_iff_ne_zero.mpr h0, Nat.le_of_not_lt h1, h2, Int.not_lt.mp h3, h4⟩

/-- The two ways HOTP ends (R179). -/
theorem doHotp_cases (k : Nat) (S : OtpState) :
    (∃ E, validateHotp S = some E ∧ doHotp k S = failCall k E S) ∨
    (validateHotp S = none ∧ doHotp k S = succeedCall k S.counter S) := by
  cases h : validateHotp S with
  | some E => exact .inl ⟨E, rfl, by simp [doHotp, h]⟩
  | none => exact .inr ⟨rfl, by simp [doHotp, h]⟩

/-- The two ways TOTP ends (R205). -/
theorem doTotp_cases (k : Nat) (S : OtpState) :
    (∃ E, validateTotp S = some E ∧ doTotp k S = failCall k E S) ∨
    (validateTotp S = none ∧ doTotp k S = succeedCall k (totpCounter S) { S with counter := totpCounter S }) := by
  cases h : validateTotp S with
  | some E => exact .inl ⟨E, rfl, by simp [doTotp, h]⟩
  | none => exact .inr ⟨rfl, by simp [doTotp, h]⟩

/-! ## The host's events -/

theorem takeEvent_nil {s : State} (h : s.inputs = []) : s.takeEvent = none := by
  simp [State.takeEvent, h]

theorem takeEvent_cons {s : State} {e : HostEvent} {rest : List HostEvent} (h : s.inputs = e :: rest) :
    s.takeEvent = some (e, { s with inputs := rest }) := by
  simp [State.takeEvent, h]

/-- An event put first is the one taken, in the state as it was. -/
theorem takeEvent_putEvent (s : State) (e : HostEvent) : (s.putEvent e).takeEvent = some (e, s) := rfl

/-! ## The draw of time_in -/

theorem drawnTime_of_named {s : State} {x : DWord} {rest : List DWord} (h : s.timeIn = x :: rest) :
    s.drawnTime = x := by
  simp [State.drawnTime, h]

theorem drawnTime_of_free {s : State} (h : s.timeIn = []) : s.drawnTime = Config.timeIn s.draws := by
  simp [State.drawnTime, h]

end Sys2Proof.Machine
end

