-- ==== Sys2Proof/Laws/Exec.lean ====
section
/-! SUPPORT. What an instruction can do, said once for all 172 of them: the frames and invariants are case analyses of this lemma. -/

namespace Sys2Proof.Machine

/-- The ten things an instruction can do: return a word, nothing, one of the six operand writes, a key push, or a command. -/
theorem exec_cases (i : Instr) (s : State) :
    (commandOf i = none ∧ ∃ v, exec i s = .next (s.completeRead v)) ∨
    (commandOf i = none ∧ exec i s = .next (s.completeWrite s.otp)) ∨
    (∃ v, i = .wrDigits v ∧ exec i s = .next (s.completeWrite (setDigits v s.otp))) ∨
    (∃ v, i = .wrWindow v ∧ exec i s = .next (s.completeWrite (setWindow v s.otp))) ∨
    (∃ v, i = .wrCounterLo v ∧ exec i s = .next (s.completeWrite (setCounterLo v s.otp))) ∨
    (∃ v, i = .wrCounterHi v ∧ exec i s = .next (s.completeWrite (setCounterHi v s.otp))) ∨
    (∃ v, i = .wrNowLo v ∧ exec i s = .next (s.completeWrite (setNowLo v s.otp))) ∨
    (∃ v, i = .wrNowHi v ∧ exec i s = .next (s.completeWrite (setNowHi v s.otp))) ∨
    (∃ v, i = .wrKeyPush v ∧ exec i s = .next (s.completeWrite (keyPush s.keyMax.bytes (keyByte v) s.otp))) ∨
    (∃ c, commandOf i = some c ∧ exec i s = .next (runCmd c s)) := by
  cases i
  case wrDigits v => exact .inr (.inr (.inl ⟨v, rfl, rfl⟩))
  case wrWindow v => exact .inr (.inr (.inr (.inl ⟨v, rfl, rfl⟩)))
  case wrCounterLo v => exact .inr (.inr (.inr (.inr (.inl ⟨v, rfl, rfl⟩))))
  case wrCounterHi v => exact .inr (.inr (.inr (.inr (.inr (.inl ⟨v, rfl, rfl⟩)))))
  case wrNowLo v => exact .inr (.inr (.inr (.inr (.inr (.inr (.inl ⟨v, rfl, rfl⟩))))))
  case wrNowHi v => exact .inr (.inr (.inr (.inr (.inr (.inr (.inr (.inl ⟨v, rfl, rfl⟩)))))))
  case wrKeyPush v => exact .inr (.inr (.inr (.inr (.inr (.inr (.inr (.inr (.inl ⟨v, rfl, rfl⟩))))))))
  all_goals first
    | exact .inl ⟨rfl, _, rfl⟩
    | exact .inr (.inl ⟨rfl, rfl⟩)
    | exact .inr (.inr (.inr (.inr (.inr (.inr (.inr (.inr (.inr ⟨_, rfl, rfl⟩))))))))

/-- An instruction that runs a command is that command, whatever word it came as. -/
theorem exec_of_commandOf {i : Instr} {c : Cmd} (h : commandOf i = some c) (s : State) :
    exec i s = .next (runCmd c s) := by
  rcases exec_cases i s with ⟨hn, _⟩ | ⟨hn, _⟩ | ⟨v, rfl, _⟩ | ⟨v, rfl, _⟩ | ⟨v, rfl, _⟩ | ⟨v, rfl, _⟩ | ⟨v, rfl, _⟩ |
    ⟨v, rfl, _⟩ | ⟨v, rfl, _⟩ | ⟨c', hc, he⟩
  · exact absurd (hn.symm.trans h) (by simp)
  · exact absurd (hn.symm.trans h) (by simp)
  iterate 7 exact absurd (Eq.symm h) (by simp [commandOf])
  · rw [he, Option.some.inj (hc.symm.trans h)]

end Sys2Proof.Machine
end

