-- ==== Sys2Proof/Laws/PerInstr.lean ====
section
/-! SUPPORT. The family RoundTrip: what the encoding of one instruction says of it, one lemma per constructor of Instr. -/

namespace Sys2Proof.Laws.RoundTrip

/-- Decoding the word of a well-formed instruction gives the instruction back. -/
def Statement (i : Instr) : Prop := wellFormed i = true → decodeWord (encode i) = i

theorem hotp : Statement .hotp := fun _ => by decide
theorem totp : Statement .totp := fun _ => by decide
theorem ldtime : Statement .ldtime := fun _ => by decide
theorem clear : Statement .clear := fun _ => by decide
theorem illegalOpc0 : Statement .illegalOpc0 := fun _ => by decide
theorem illegalOpc5 : Statement .illegalOpc5 := fun _ => by decide
theorem illegalOpc6 : Statement .illegalOpc6 := fun _ => by decide
theorem illegalOpc7 : Statement .illegalOpc7 := fun _ => by decide
theorem illegalOpc8 : Statement .illegalOpc8 := fun _ => by decide
theorem illegalOpc9 : Statement .illegalOpc9 := fun _ => by decide
theorem illegalOpc10 : Statement .illegalOpc10 := fun _ => by decide
theorem illegalOpc11 : Statement .illegalOpc11 := fun _ => by decide
theorem illegalOpc12 : Statement .illegalOpc12 := fun _ => by decide
theorem illegalOpc13 : Statement .illegalOpc13 := fun _ => by decide
theorem illegalOpc14 : Statement .illegalOpc14 := fun _ => by decide
theorem illegalOpc15 : Statement .illegalOpc15 := fun _ => by decide
theorem illegalRsvd4 (w : Word) : Statement (.illegalRsvd4 w) := decodeCommand_of_lowestReserved
theorem illegalRsvd5 (w : Word) : Statement (.illegalRsvd5 w) := decodeCommand_of_lowestReserved
theorem illegalRsvd6 (w : Word) : Statement (.illegalRsvd6 w) := decodeCommand_of_lowestReserved
theorem illegalRsvd7 (w : Word) : Statement (.illegalRsvd7 w) := decodeCommand_of_lowestReserved
theorem illegalRsvd8 (w : Word) : Statement (.illegalRsvd8 w) := decodeCommand_of_lowestReserved
theorem illegalRsvd9 (w : Word) : Statement (.illegalRsvd9 w) := decodeCommand_of_lowestReserved
theorem illegalRsvd10 (w : Word) : Statement (.illegalRsvd10 w) := decodeCommand_of_lowestReserved
theorem illegalRsvd11 (w : Word) : Statement (.illegalRsvd11 w) := decodeCommand_of_lowestReserved
theorem illegalRsvd12 (w : Word) : Statement (.illegalRsvd12 w) := decodeCommand_of_lowestReserved
theorem illegalRsvd13 (w : Word) : Statement (.illegalRsvd13 w) := decodeCommand_of_lowestReserved
theorem illegalRsvd14 (w : Word) : Statement (.illegalRsvd14 w) := decodeCommand_of_lowestReserved
theorem illegalRsvd15 (w : Word) : Statement (.illegalRsvd15 w) := decodeCommand_of_lowestReserved
theorem illegalRsvd16 (w : Word) : Statement (.illegalRsvd16 w) := decodeCommand_of_lowestReserved
theorem illegalRsvd17 (w : Word) : Statement (.illegalRsvd17 w) := decodeCommand_of_lowestReserved
theorem illegalRsvd18 (w : Word) : Statement (.illegalRsvd18 w) := decodeCommand_of_lowestReserved
theorem illegalRsvd19 (w : Word) : Statement (.illegalRsvd19 w) := decodeCommand_of_lowestReserved
theorem illegalRsvd20 (w : Word) : Statement (.illegalRsvd20 w) := decodeCommand_of_lowestReserved
theorem illegalRsvd21 (w : Word) : Statement (.illegalRsvd21 w) := decodeCommand_of_lowestReserved
theorem illegalRsvd22 (w : Word) : Statement (.illegalRsvd22 w) := decodeCommand_of_lowestReserved
theorem illegalRsvd23 (w : Word) : Statement (.illegalRsvd23 w) := decodeCommand_of_lowestReserved
theorem illegalRsvd24 (w : Word) : Statement (.illegalRsvd24 w) := decodeCommand_of_lowestReserved
theorem illegalRsvd25 (w : Word) : Statement (.illegalRsvd25 w) := decodeCommand_of_lowestReserved
theorem illegalRsvd26 (w : Word) : Statement (.illegalRsvd26 w) := decodeCommand_of_lowestReserved
theorem illegalRsvd27 (w : Word) : Statement (.illegalRsvd27 w) := decodeCommand_of_lowestReserved
theorem illegalRsvd28 (w : Word) : Statement (.illegalRsvd28 w) := decodeCommand_of_lowestReserved
theorem illegalRsvd29 (w : Word) : Statement (.illegalRsvd29 w) := decodeCommand_of_lowestReserved
theorem illegalRsvd30 (w : Word) : Statement (.illegalRsvd30 w) := decodeCommand_of_lowestReserved
theorem illegalRsvd31 (w : Word) : Statement (.illegalRsvd31 w) := decodeCommand_of_lowestReserved
theorem rdCmd : Statement .rdCmd := fun _ => decodeTransaction_readWord _
theorem rdStatus : Statement .rdStatus := fun _ => decodeTransaction_readWord _
theorem rdDigits : Statement .rdDigits := fun _ => decodeTransaction_readWord _
theorem rdWindow : Statement .rdWindow := fun _ => decodeTransaction_readWord _
theorem rdCounterLo : Statement .rdCounterLo := fun _ => decodeTransaction_readWord _
theorem rdCounterHi : Statement .rdCounterHi := fun _ => decodeTransaction_readWord _
theorem rdNowLo : Statement .rdNowLo := fun _ => decodeTransaction_readWord _
theorem rdNowHi : Statement .rdNowHi := fun _ => decodeTransaction_readWord _
theorem rdKeyPush : Statement .rdKeyPush := fun _ => decodeTransaction_readWord _
theorem rdKeyLen : Statement .rdKeyLen := fun _ => decodeTransaction_readWord _
theorem rdCodeLen : Statement .rdCodeLen := fun _ => decodeTransaction_readWord _
theorem rdCodeVal : Statement .rdCodeVal := fun _ => decodeTransaction_readWord _
theorem rdSlot12 : Statement .rdSlot12 := fun _ => decodeTransaction_readWord _
theorem rdSlot13 : Statement .rdSlot13 := fun _ => decodeTransaction_readWord _
theorem rdSlot14 : Statement .rdSlot14 := fun _ => decodeTransaction_readWord _
theorem rdSlot15 : Statement .rdSlot15 := fun _ => decodeTransaction_readWord _
theorem rdCode0 : Statement .rdCode0 := fun _ => decodeTransaction_readWord _
theorem rdCode1 : Statement .rdCode1 := fun _ => decodeTransaction_readWord _
theorem rdCode2 : Statement .rdCode2 := fun _ => decodeTransaction_readWord _
theorem rdCode3 : Statement .rdCode3 := fun _ => decodeTransaction_readWord _
theorem rdCode4 : Statement .rdCode4 := fun _ => decodeTransaction_readWord _
theorem rdCode5 : Statement .rdCode5 := fun _ => decodeTransaction_readWord _
theorem rdCode6 : Statement .rdCode6 := fun _ => decodeTransaction_readWord _
theorem rdCode7 : Statement .rdCode7 := fun _ => decodeTransaction_readWord _
theorem rdCode8 : Statement .rdCode8 := fun _ => decodeTransaction_readWord _
theorem rdCode9 : Statement .rdCode9 := fun _ => decodeTransaction_readWord _
theorem rdSlot26 : Statement .rdSlot26 := fun _ => decodeTransaction_readWord _
theorem rdSlot27 : Statement .rdSlot27 := fun _ => decodeTransaction_readWord _
theorem rdSlot28 : Statement .rdSlot28 := fun _ => decodeTransaction_readWord _
theorem rdSlot29 : Statement .rdSlot29 := fun _ => decodeTransaction_readWord _
theorem rdSlot30 : Statement .rdSlot30 := fun _ => decodeTransaction_readWord _
theorem rdSlot31 : Statement .rdSlot31 := fun _ => decodeTransaction_readWord _
theorem rdSlot32 : Statement .rdSlot32 := fun _ => decodeTransaction_readWord _
theorem rdSlot33 : Statement .rdSlot33 := fun _ => decodeTransaction_readWord _
theorem rdSlot34 : Statement .rdSlot34 := fun _ => decodeTransaction_readWord _
theorem rdSlot35 : Statement .rdSlot35 := fun _ => decodeTransaction_readWord _
theorem rdSlot36 : Statement .rdSlot36 := fun _ => decodeTransaction_readWord _
theorem rdSlot37 : Statement .rdSlot37 := fun _ => decodeTransaction_readWord _
theorem rdSlot38 : Statement .rdSlot38 := fun _ => decodeTransaction_readWord _
theorem rdSlot39 : Statement .rdSlot39 := fun _ => decodeTransaction_readWord _
theorem rdSlot40 : Statement .rdSlot40 := fun _ => decodeTransaction_readWord _
theorem rdSlot41 : Statement .rdSlot41 := fun _ => decodeTransaction_readWord _
theorem rdSlot42 : Statement .rdSlot42 := fun _ => decodeTransaction_readWord _
theorem rdSlot43 : Statement .rdSlot43 := fun _ => decodeTransaction_readWord _
theorem rdSlot44 : Statement .rdSlot44 := fun _ => decodeTransaction_readWord _
theorem rdSlot45 : Statement .rdSlot45 := fun _ => decodeTransaction_readWord _
theorem rdSlot46 : Statement .rdSlot46 := fun _ => decodeTransaction_readWord _
theorem rdSlot47 : Statement .rdSlot47 := fun _ => decodeTransaction_readWord _
theorem rdSlot48 : Statement .rdSlot48 := fun _ => decodeTransaction_readWord _
theorem rdSlot49 : Statement .rdSlot49 := fun _ => decodeTransaction_readWord _
theorem rdSlot50 : Statement .rdSlot50 := fun _ => decodeTransaction_readWord _
theorem rdSlot51 : Statement .rdSlot51 := fun _ => decodeTransaction_readWord _
theorem rdSlot52 : Statement .rdSlot52 := fun _ => decodeTransaction_readWord _
theorem rdSlot53 : Statement .rdSlot53 := fun _ => decodeTransaction_readWord _
theorem rdSlot54 : Statement .rdSlot54 := fun _ => decodeTransaction_readWord _
theorem rdSlot55 : Statement .rdSlot55 := fun _ => decodeTransaction_readWord _
theorem rdSlot56 : Statement .rdSlot56 := fun _ => decodeTransaction_readWord _
theorem rdSlot57 : Statement .rdSlot57 := fun _ => decodeTransaction_readWord _
theorem rdSlot58 : Statement .rdSlot58 := fun _ => decodeTransaction_readWord _
theorem rdSlot59 : Statement .rdSlot59 := fun _ => decodeTransaction_readWord _
theorem rdSlot60 : Statement .rdSlot60 := fun _ => decodeTransaction_readWord _
theorem rdSlot61 : Statement .rdSlot61 := fun _ => decodeTransaction_readWord _
theorem rdSlot62 : Statement .rdSlot62 := fun _ => decodeTransaction_readWord _
theorem rdSlot63 : Statement .rdSlot63 := fun _ => decodeTransaction_readWord _
theorem wrCmd (v : Word) : Statement (.wrCmd v) := fun _ => decodeTransaction_writeWord _ _
theorem wrStatus (v : Word) : Statement (.wrStatus v) := fun _ => decodeTransaction_writeWord _ _
theorem wrDigits (v : Word) : Statement (.wrDigits v) := fun _ => decodeTransaction_writeWord _ _
theorem wrWindow (v : Word) : Statement (.wrWindow v) := fun _ => decodeTransaction_writeWord _ _
theorem wrCounterLo (v : Word) : Statement (.wrCounterLo v) := fun _ => decodeTransaction_writeWord _ _
theorem wrCounterHi (v : Word) : Statement (.wrCounterHi v) := fun _ => decodeTransaction_writeWord _ _
theorem wrNowLo (v : Word) : Statement (.wrNowLo v) := fun _ => decodeTransaction_writeWord _ _
theorem wrNowHi (v : Word) : Statement (.wrNowHi v) := fun _ => decodeTransaction_writeWord _ _
theorem wrKeyPush (v : Word) : Statement (.wrKeyPush v) := fun _ => decodeTransaction_writeWord _ _
theorem wrKeyLen (v : Word) : Statement (.wrKeyLen v) := fun _ => decodeTransaction_writeWord _ _
theorem wrCodeLen (v : Word) : Statement (.wrCodeLen v) := fun _ => decodeTransaction_writeWord _ _
theorem wrCodeVal (v : Word) : Statement (.wrCodeVal v) := fun _ => decodeTransaction_writeWord _ _
theorem wrSlot12 (v : Word) : Statement (.wrSlot12 v) := fun _ => decodeTransaction_writeWord _ _
theorem wrSlot13 (v : Word) : Statement (.wrSlot13 v) := fun _ => decodeTransaction_writeWord _ _
theorem wrSlot14 (v : Word) : Statement (.wrSlot14 v) := fun _ => decodeTransaction_writeWord _ _
theorem wrSlot15 (v : Word) : Statement (.wrSlot15 v) := fun _ => decodeTransaction_writeWord _ _
theorem wrCode0 (v : Word) : Statement (.wrCode0 v) := fun _ => decodeTransaction_writeWord _ _
theorem wrCode1 (v : Word) : Statement (.wrCode1 v) := fun _ => decodeTransaction_writeWord _ _
theorem wrCode2 (v : Word) : Statement (.wrCode2 v) := fun _ => decodeTransaction_writeWord _ _
theorem wrCode3 (v : Word) : Statement (.wrCode3 v) := fun _ => decodeTransaction_writeWord _ _
theorem wrCode4 (v : Word) : Statement (.wrCode4 v) := fun _ => decodeTransaction_writeWord _ _
theorem wrCode5 (v : Word) : Statement (.wrCode5 v) := fun _ => decodeTransaction_writeWord _ _
theorem wrCode6 (v : Word) : Statement (.wrCode6 v) := fun _ => decodeTransaction_writeWord _ _
theorem wrCode7 (v : Word) : Statement (.wrCode7 v) := fun _ => decodeTransaction_writeWord _ _
theorem wrCode8 (v : Word) : Statement (.wrCode8 v) := fun _ => decodeTransaction_writeWord _ _
theorem wrCode9 (v : Word) : Statement (.wrCode9 v) := fun _ => decodeTransaction_writeWord _ _
theorem wrSlot26 (v : Word) : Statement (.wrSlot26 v) := fun _ => decodeTransaction_writeWord _ _
theorem wrSlot27 (v : Word) : Statement (.wrSlot27 v) := fun _ => decodeTransaction_writeWord _ _
theorem wrSlot28 (v : Word) : Statement (.wrSlot28 v) := fun _ => decodeTransaction_writeWord _ _
theorem wrSlot29 (v : Word) : Statement (.wrSlot29 v) := fun _ => decodeTransaction_writeWord _ _
theorem wrSlot30 (v : Word) : Statement (.wrSlot30 v) := fun _ => decodeTransaction_writeWord _ _
theorem wrSlot31 (v : Word) : Statement (.wrSlot31 v) := fun _ => decodeTransaction_writeWord _ _
theorem wrSlot32 (v : Word) : Statement (.wrSlot32 v) := fun _ => decodeTransaction_writeWord _ _
theorem wrSlot33 (v : Word) : Statement (.wrSlot33 v) := fun _ => decodeTransaction_writeWord _ _
theorem wrSlot34 (v : Word) : Statement (.wrSlot34 v) := fun _ => decodeTransaction_writeWord _ _
theorem wrSlot35 (v : Word) : Statement (.wrSlot35 v) := fun _ => decodeTransaction_writeWord _ _
theorem wrSlot36 (v : Word) : Statement (.wrSlot36 v) := fun _ => decodeTransaction_writeWord _ _
theorem wrSlot37 (v : Word) : Statement (.wrSlot37 v) := fun _ => decodeTransaction_writeWord _ _
theorem wrSlot38 (v : Word) : Statement (.wrSlot38 v) := fun _ => decodeTransaction_writeWord _ _
theorem wrSlot39 (v : Word) : Statement (.wrSlot39 v) := fun _ => decodeTransaction_writeWord _ _
theorem wrSlot40 (v : Word) : Statement (.wrSlot40 v) := fun _ => decodeTransaction_writeWord _ _
theorem wrSlot41 (v : Word) : Statement (.wrSlot41 v) := fun _ => decodeTransaction_writeWord _ _
theorem wrSlot42 (v : Word) : Statement (.wrSlot42 v) := fun _ => decodeTransaction_writeWord _ _
theorem wrSlot43 (v : Word) : Statement (.wrSlot43 v) := fun _ => decodeTransaction_writeWord _ _
theorem wrSlot44 (v : Word) : Statement (.wrSlot44 v) := fun _ => decodeTransaction_writeWord _ _
theorem wrSlot45 (v : Word) : Statement (.wrSlot45 v) := fun _ => decodeTransaction_writeWord _ _
theorem wrSlot46 (v : Word) : Statement (.wrSlot46 v) := fun _ => decodeTransaction_writeWord _ _
theorem wrSlot47 (v : Word) : Statement (.wrSlot47 v) := fun _ => decodeTransaction_writeWord _ _
theorem wrSlot48 (v : Word) : Statement (.wrSlot48 v) := fun _ => decodeTransaction_writeWord _ _
theorem wrSlot49 (v : Word) : Statement (.wrSlot49 v) := fun _ => decodeTransaction_writeWord _ _
theorem wrSlot50 (v : Word) : Statement (.wrSlot50 v) := fun _ => decodeTransaction_writeWord _ _
theorem wrSlot51 (v : Word) : Statement (.wrSlot51 v) := fun _ => decodeTransaction_writeWord _ _
theorem wrSlot52 (v : Word) : Statement (.wrSlot52 v) := fun _ => decodeTransaction_writeWord _ _
theorem wrSlot53 (v : Word) : Statement (.wrSlot53 v) := fun _ => decodeTransaction_writeWord _ _
theorem wrSlot54 (v : Word) : Statement (.wrSlot54 v) := fun _ => decodeTransaction_writeWord _ _
theorem wrSlot55 (v : Word) : Statement (.wrSlot55 v) := fun _ => decodeTransaction_writeWord _ _
theorem wrSlot56 (v : Word) : Statement (.wrSlot56 v) := fun _ => decodeTransaction_writeWord _ _
theorem wrSlot57 (v : Word) : Statement (.wrSlot57 v) := fun _ => decodeTransaction_writeWord _ _
theorem wrSlot58 (v : Word) : Statement (.wrSlot58 v) := fun _ => decodeTransaction_writeWord _ _
theorem wrSlot59 (v : Word) : Statement (.wrSlot59 v) := fun _ => decodeTransaction_writeWord _ _
theorem wrSlot60 (v : Word) : Statement (.wrSlot60 v) := fun _ => decodeTransaction_writeWord _ _
theorem wrSlot61 (v : Word) : Statement (.wrSlot61 v) := fun _ => decodeTransaction_writeWord _ _
theorem wrSlot62 (v : Word) : Statement (.wrSlot62 v) := fun _ => decodeTransaction_writeWord _ _
theorem wrSlot63 (v : Word) : Statement (.wrSlot63 v) := fun _ => decodeTransaction_writeWord _ _

end Sys2Proof.Laws.RoundTrip
end

