-- ==== Sys2Proof/Laws/Pseudo.lean ====
section
/-! SUPPORT. The small lemmas of the host's side: how a sequence of instructions is issued and run, one instruction at a time. -/

namespace Sys2Proof.Machine

/-! ## Going on -/

@[simp] theorem andThen_next {α β : Type} (a : α) (f : α → Host.Outcome β Fault Refusal) : andThen (.next a) f = f a := rfl

/-- A sequence ends in a next state exactly when both its parts do. -/
theorem andThen_eq_next {α β : Type} {o : Host.Outcome α Fault Refusal} {f : α → Host.Outcome β Fault Refusal} {b : β} :
    andThen o f = .next b ↔ ∃ a, o = .next a ∧ f a = .next b := by
  cases o <;> simp [andThen]

/-! ## Issuing instructions -/

/-- A word put first is the one the step executes, in the state as it was. -/
theorem step_putEvent_word (s : State) (b : BusWord) : step (s.putEvent (.word b)) = exec (decodeWord b) s := rfl

@[simp] theorem issue_nil (s : State) : issue [] s = .next (s, []) := rfl

/-- Issuing an instruction that its word stands for executes it and goes on with the others. -/
theorem issue_cons {i : Instr} (h : decodeWord (encode i) = i) {is : List Instr} {s t : State} (he : exec i s = .next t) :
    issue (i :: is) s = andThen (issue is t) fun r => .next (r.1, t.response.toList ++ r.2) := by
  simp [issue, step_putEvent_word, h, he]

/-- Running a queue that begins with an instruction executes it and goes on with the others. -/
theorem run_hostEvents_cons {i : Instr} (h : decodeWord (encode i) = i) {is : List Instr} {s t : State}
    {rest : List HostEvent} (he : exec i { s with inputs := hostEvents is ++ rest } = .next t) :
    Host.Core.run core (i :: is).length { s with inputs := hostEvents (i :: is) ++ rest } =
      Host.Core.run core is.length t := by
  have hs : step { s with inputs := hostEvents (i :: is) ++ rest } = .next t := by
    simpa [step, State.takeEvent, hostEvents, h] using he
  simp [Host.Core.run, core, hs]

/-! ## The lists of instructions -/

@[simp] theorem hostEvents_length (is : List Instr) : (hostEvents is).length = is.length := by simp [hostEvents]

@[simp] theorem hostEvents_append (is js : List Instr) : hostEvents (is ++ js) = hostEvents is ++ hostEvents js := by
  simp [hostEvents]

@[simp] theorem keyHex_length (key : List Byte) : (keyHex key).length = key.length := by simp [keyHex]

@[simp] theorem keyHex_cons (b : Byte) (key : List Byte) :
    keyHex (b :: key) = .wrKeyPush (b.setWidth 32) :: keyHex key := rfl

@[simp] theorem keyByte_setWidth (b : Byte) : keyByte (b.setWidth 32) = b := by
  ext j hj
  simp [keyByte, hj]
  omega

@[simp] theorem isKeyPush_wrKeyPush (v : Word) : isKeyPush (.wrKeyPush v) = true := rfl

@[simp] theorem filter_isKeyPush_keyHex (key : List Byte) : (keyHex key).filter isKeyPush = keyHex key := by
  simp [keyHex, List.filter_map, Function.comp_def]

/-- The pushes among the writes of a HOTP call are its key's. -/
@[simp] theorem filter_isKeyPush_hotpWrites (key : List Byte) (c : DWord) (d : Word) :
    (hotpWrites key c d).filter isKeyPush = keyHex key := by
  simp [hotpWrites, setCtr, isKeyPush]

/-- The pushes among the writes of a TOTP call are its key's. -/
@[simp] theorem filter_isKeyPush_totpWrites (key : List Byte) (d w : Word) (now : TimeSource) :
    (totpWrites key d w now).filter isKeyPush = keyHex key := by
  cases now <;> simp [totpWrites, TimeSource.writes, setNow, isKeyPush]

end Sys2Proof.Machine
end

