-- ==== Sys2Proof/Tests/Slice0.lean ====
section
/-! SUPPORT. The model's own tests: words written out from spec/30_encoding.md, ill-formed terms that WellFormed refuses, vectors of
spec/95_test_vectors.md (each named in its comment), and for every statement with hypotheses a state that meets them. -/

namespace Sys2Proof.Tests

set_option Elab.async false

open Sys2Proof.Machine

/-! ## Decoding and well-formedness -/

/-- R91, R92: `t = we ++ idx ++ wdata` with `we` = 0. -/
theorem test_decode_reads_1 :
    [0x0000000000, 0x0100000000, 0x0200000000, 0x0300000000, 0x0400000000, 0x0500000000, 0x0600000000, 0x0700000000, 0x0800000000, 0x0900000000, 0x0A00000000, 0x0B00000000, 0x0C00000000, 0x0D00000000, 0x0E00000000, 0x0F00000000].map (decodeTableWord 40) =
      [some .rdCmd, some .rdStatus, some .rdDigits, some .rdWindow, some .rdCounterLo, some .rdCounterHi, some .rdNowLo, some .rdNowHi, some .rdKeyPush, some .rdKeyLen, some .rdCodeLen, some .rdCodeVal, some .rdSlot12, some .rdSlot13, some .rdSlot14, some .rdSlot15] := by decide +kernel

/-- R91, R92: `t = we ++ idx ++ wdata` with `we` = 0. -/
theorem test_decode_reads_2 :
    [0x1000000000, 0x1100000000, 0x1200000000, 0x1300000000, 0x1400000000, 0x1500000000, 0x1600000000, 0x1700000000, 0x1800000000, 0x1900000000, 0x1A00000000, 0x1B00000000, 0x1C00000000, 0x1D00000000, 0x1E00000000, 0x1F00000000].map (decodeTableWord 40) =
      [some .rdCode0, some .rdCode1, some .rdCode2, some .rdCode3, some .rdCode4, some .rdCode5, some .rdCode6, some .rdCode7, some .rdCode8, some .rdCode9, some .rdSlot26, some .rdSlot27, some .rdSlot28, some .rdSlot29, some .rdSlot30, some .rdSlot31] := by decide +kernel

/-- R91, R92: `t = we ++ idx ++ wdata` with `we` = 0. -/
theorem test_decode_reads_3 :
    [0x2000000000, 0x2100000000, 0x2200000000, 0x2300000000, 0x2400000000, 0x2500000000, 0x2600000000, 0x2700000000, 0x2800000000, 0x2900000000, 0x2A00000000, 0x2B00000000, 0x2C00000000, 0x2D00000000, 0x2E00000000, 0x2F00000000].map (decodeTableWord 40) =
      [some .rdSlot32, some .rdSlot33, some .rdSlot34, some .rdSlot35, some .rdSlot36, some .rdSlot37, some .rdSlot38, some .rdSlot39, some .rdSlot40, some .rdSlot41, some .rdSlot42, some .rdSlot43, some .rdSlot44, some .rdSlot45, some .rdSlot46, some .rdSlot47] := by decide +kernel

/-- R91, R92: `t = we ++ idx ++ wdata` with `we` = 0. -/
theorem test_decode_reads_4 :
    [0x3000000000, 0x3100000000, 0x3200000000, 0x3300000000, 0x3400000000, 0x3500000000, 0x3600000000, 0x3700000000, 0x3800000000, 0x3900000000, 0x3A00000000, 0x3B00000000, 0x3C00000000, 0x3D00000000, 0x3E00000000, 0x3F00000000].map (decodeTableWord 40) =
      [some .rdSlot48, some .rdSlot49, some .rdSlot50, some .rdSlot51, some .rdSlot52, some .rdSlot53, some .rdSlot54, some .rdSlot55, some .rdSlot56, some .rdSlot57, some .rdSlot58, some .rdSlot59, some .rdSlot60, some .rdSlot61, some .rdSlot62, some .rdSlot63] := by decide +kernel

/-- R91, R92: `t = we ++ idx ++ wdata` with `we` = 1 and data 0x800000A5. -/
theorem test_decode_writes_1 :
    [0x40800000A5, 0x41800000A5, 0x42800000A5, 0x43800000A5, 0x44800000A5, 0x45800000A5, 0x46800000A5, 0x47800000A5, 0x48800000A5, 0x49800000A5, 0x4A800000A5, 0x4B800000A5, 0x4C800000A5, 0x4D800000A5, 0x4E800000A5, 0x4F800000A5].map (decodeTableWord 40) =
      [some (.wrCmd 0x800000A5#32), some (.wrStatus 0x800000A5#32), some (.wrDigits 0x800000A5#32), some (.wrWindow 0x800000A5#32), some (.wrCounterLo 0x800000A5#32), some (.wrCounterHi 0x800000A5#32), some (.wrNowLo 0x800000A5#32), some (.wrNowHi 0x800000A5#32), some (.wrKeyPush 0x800000A5#32), some (.wrKeyLen 0x800000A5#32), some (.wrCodeLen 0x800000A5#32), some (.wrCodeVal 0x800000A5#32), some (.wrSlot12 0x800000A5#32), some (.wrSlot13 0x800000A5#32), some (.wrSlot14 0x800000A5#32), some (.wrSlot15 0x800000A5#32)] := by decide +kernel

/-- R91, R92: `t = we ++ idx ++ wdata` with `we` = 1 and data 0x800000A5. -/
theorem test_decode_writes_2 :
    [0x50800000A5, 0x51800000A5, 0x52800000A5, 0x53800000A5, 0x54800000A5, 0x55800000A5, 0x56800000A5, 0x57800000A5, 0x58800000A5, 0x59800000A5, 0x5A800000A5, 0x5B800000A5, 0x5C800000A5, 0x5D800000A5, 0x5E800000A5, 0x5F800000A5].map (decodeTableWord 40) =
      [some (.wrCode0 0x800000A5#32), some (.wrCode1 0x800000A5#32), some (.wrCode2 0x800000A5#32), some (.wrCode3 0x800000A5#32), some (.wrCode4 0x800000A5#32), some (.wrCode5 0x800000A5#32), some (.wrCode6 0x800000A5#32), some (.wrCode7 0x800000A5#32), some (.wrCode8 0x800000A5#32), some (.wrCode9 0x800000A5#32), some (.wrSlot26 0x800000A5#32), some (.wrSlot27 0x800000A5#32), some (.wrSlot28 0x800000A5#32), some (.wrSlot29 0x800000A5#32), some (.wrSlot30 0x800000A5#32), some (.wrSlot31 0x800000A5#32)] := by decide +kernel

/-- R91, R92: `t = we ++ idx ++ wdata` with `we` = 1 and data 0x800000A5. -/
theorem test_decode_writes_3 :
    [0x60800000A5, 0x61800000A5, 0x62800000A5, 0x63800000A5, 0x64800000A5, 0x65800000A5, 0x66800000A5, 0x67800000A5, 0x68800000A5, 0x69800000A5, 0x6A800000A5, 0x6B800000A5, 0x6C800000A5, 0x6D800000A5, 0x6E800000A5, 0x6F800000A5].map (decodeTableWord 40) =
      [some (.wrSlot32 0x800000A5#32), some (.wrSlot33 0x800000A5#32), some (.wrSlot34 0x800000A5#32), some (.wrSlot35 0x800000A5#32), some (.wrSlot36 0x800000A5#32), some (.wrSlot37 0x800000A5#32), some (.wrSlot38 0x800000A5#32), some (.wrSlot39 0x800000A5#32), some (.wrSlot40 0x800000A5#32), some (.wrSlot41 0x800000A5#32), some (.wrSlot42 0x800000A5#32), some (.wrSlot43 0x800000A5#32), some (.wrSlot44 0x800000A5#32), some (.wrSlot45 0x800000A5#32), some (.wrSlot46 0x800000A5#32), some (.wrSlot47 0x800000A5#32)] := by decide +kernel

/-- R91, R92: `t = we ++ idx ++ wdata` with `we` = 1 and data 0x800000A5. -/
theorem test_decode_writes_4 :
    [0x70800000A5, 0x71800000A5, 0x72800000A5, 0x73800000A5, 0x74800000A5, 0x75800000A5, 0x76800000A5, 0x77800000A5, 0x78800000A5, 0x79800000A5, 0x7A800000A5, 0x7B800000A5, 0x7C800000A5, 0x7D800000A5, 0x7E800000A5, 0x7F800000A5].map (decodeTableWord 40) =
      [some (.wrSlot48 0x800000A5#32), some (.wrSlot49 0x800000A5#32), some (.wrSlot50 0x800000A5#32), some (.wrSlot51 0x800000A5#32), some (.wrSlot52 0x800000A5#32), some (.wrSlot53 0x800000A5#32), some (.wrSlot54 0x800000A5#32), some (.wrSlot55 0x800000A5#32), some (.wrSlot56 0x800000A5#32), some (.wrSlot57 0x800000A5#32), some (.wrSlot58 0x800000A5#32), some (.wrSlot59 0x800000A5#32), some (.wrSlot60 0x800000A5#32), some (.wrSlot61 0x800000A5#32), some (.wrSlot62 0x800000A5#32), some (.wrSlot63 0x800000A5#32)] := by decide +kernel

/-- R94, R96: reserved bits zero, every opcode. -/
theorem test_decode_commands_1 :
    [0x00000000, 0x00000001, 0x00000002, 0x00000003, 0x00000004, 0x00000005, 0x00000006, 0x00000007, 0x00000008, 0x00000009, 0x0000000A, 0x0000000B, 0x0000000C, 0x0000000D, 0x0000000E, 0x0000000F].map (decodeTableWord 32) =
      [some .illegalOpc0, some .hotp, some .totp, some .ldtime, some .clear, some .illegalOpc5, some .illegalOpc6, some .illegalOpc7, some .illegalOpc8, some .illegalOpc9, some .illegalOpc10, some .illegalOpc11, some .illegalOpc12, some .illegalOpc13, some .illegalOpc14, some .illegalOpc15] := by decide +kernel

/-- R95, R96: OPC 1 with one reserved bit set is not HOTP. -/
theorem test_decode_reserved_1 :
    [0x00000011, 0x00000021, 0x00000041, 0x00000081, 0x00000101, 0x00000201, 0x00000401, 0x00000801, 0x00001001, 0x00002001, 0x00004001, 0x00008001, 0x00010001, 0x00020001].map (decodeTableWord 32) =
      [some (.illegalRsvd4 0x11#32), some (.illegalRsvd5 0x21#32), some (.illegalRsvd6 0x41#32), some (.illegalRsvd7 0x81#32), some (.illegalRsvd8 0x101#32), some (.illegalRsvd9 0x201#32), some (.illegalRsvd10 0x401#32), some (.illegalRsvd11 0x801#32), some (.illegalRsvd12 0x1001#32), some (.illegalRsvd13 0x2001#32), some (.illegalRsvd14 0x4001#32), some (.illegalRsvd15 0x8001#32), some (.illegalRsvd16 0x10001#32), some (.illegalRsvd17 0x20001#32)] := by decide +kernel

/-- R95, R96: OPC 1 with one reserved bit set is not HOTP. -/
theorem test_decode_reserved_2 :
    [0x00040001, 0x00080001, 0x00100001, 0x00200001, 0x00400001, 0x00800001, 0x01000001, 0x02000001, 0x04000001, 0x08000001, 0x10000001, 0x20000001, 0x40000001, 0x80000001].map (decodeTableWord 32) =
      [some (.illegalRsvd18 0x40001#32), some (.illegalRsvd19 0x80001#32), some (.illegalRsvd20 0x100001#32), some (.illegalRsvd21 0x200001#32), some (.illegalRsvd22 0x400001#32), some (.illegalRsvd23 0x800001#32), some (.illegalRsvd24 0x1000001#32), some (.illegalRsvd25 0x2000001#32), some (.illegalRsvd26 0x4000001#32), some (.illegalRsvd27 0x8000001#32), some (.illegalRsvd28 0x10000001#32), some (.illegalRsvd29 0x20000001#32), some (.illegalRsvd30 0x40000001#32), some (.illegalRsvd31 0x80000001#32)] := by decide +kernel

/-- The rows ILLEGAL.RSVD4..31: each refuses a word without its bit, and a word with a lower reserved bit set too. -/
theorem test_illFormed_1 :
    [.illegalRsvd4 0x00000001#32, .illegalRsvd5 0x00000001#32, .illegalRsvd6 0x00000001#32, .illegalRsvd7 0x00000001#32, .illegalRsvd8 0x00000001#32, .illegalRsvd9 0x00000001#32, .illegalRsvd10 0x00000001#32, .illegalRsvd11 0x00000001#32, .illegalRsvd12 0x00000001#32, .illegalRsvd13 0x00000001#32, .illegalRsvd14 0x00000001#32, .illegalRsvd15 0x00000001#32, .illegalRsvd16 0x00000001#32, .illegalRsvd17 0x00000001#32].map wellFormed = List.replicate 14 false ∧
    [.illegalRsvd4 0x10#32, .illegalRsvd5 0x30#32, .illegalRsvd6 0x60#32, .illegalRsvd7 0xC0#32, .illegalRsvd8 0x180#32, .illegalRsvd9 0x300#32, .illegalRsvd10 0x600#32, .illegalRsvd11 0xC00#32, .illegalRsvd12 0x1800#32, .illegalRsvd13 0x3000#32, .illegalRsvd14 0x6000#32, .illegalRsvd15 0xC000#32, .illegalRsvd16 0x18000#32, .illegalRsvd17 0x30000#32].map wellFormed =
      [true, false, false, false, false, false, false, false, false, false, false, false, false, false] := by decide +kernel

theorem test_illFormed_2 :
    [.illegalRsvd18 0x00000001#32, .illegalRsvd19 0x00000001#32, .illegalRsvd20 0x00000001#32, .illegalRsvd21 0x00000001#32, .illegalRsvd22 0x00000001#32, .illegalRsvd23 0x00000001#32, .illegalRsvd24 0x00000001#32, .illegalRsvd25 0x00000001#32, .illegalRsvd26 0x00000001#32, .illegalRsvd27 0x00000001#32, .illegalRsvd28 0x00000001#32, .illegalRsvd29 0x00000001#32, .illegalRsvd30 0x00000001#32, .illegalRsvd31 0x00000001#32].map wellFormed = List.replicate 14 false ∧
    [.illegalRsvd18 0x60000#32, .illegalRsvd19 0xC0000#32, .illegalRsvd20 0x180000#32, .illegalRsvd21 0x300000#32, .illegalRsvd22 0x600000#32, .illegalRsvd23 0xC00000#32, .illegalRsvd24 0x1800000#32, .illegalRsvd25 0x3000000#32, .illegalRsvd26 0x6000000#32, .illegalRsvd27 0xC000000#32, .illegalRsvd28 0x18000000#32, .illegalRsvd29 0x30000000#32, .illegalRsvd30 0x60000000#32, .illegalRsvd31 0xC0000000#32].map wellFormed =
      [false, false, false, false, false, false, false, false, false, false, false, false, false, false] := by decide +kernel

/-- R91: 39 bits; R90: a single fixed length. -/
theorem test_decode_rejects :
    decodeBytes [0x00#8, 0x00#8, 0x00#8, 0x00#8, 0x80#8] = .error .bit39Set ∧
    decodeBytes [0x01#8, 0x00#8] = .error (.badLength 2) ∧
    decodeTableWord 40 0x8000000000 = none ∧ decodeTableWord 32 0x100000001 = none := by decide +kernel

/-! ## Helpers -/

/-- The ASCII bytes of "12345678901234567890", `KRFC` of spec/95_test_vectors.md. -/
def krfc : List Byte :=
  [0x31#8, 0x32#8, 0x33#8, 0x34#8, 0x35#8, 0x36#8, 0x37#8, 0x38#8, 0x39#8, 0x30#8] ++
  [0x31#8, 0x32#8, 0x33#8, 0x34#8, 0x35#8, 0x36#8, 0x37#8, 0x38#8, 0x39#8, 0x30#8]

/-- A buffer of `k` bytes after the bytes `key` were pushed. -/
def withKey (k : KeyMax) (key : List Byte) (s : State) : State :=
  { s with otp := { s.otp with key := key ++ List.replicate (k.bytes - key.length) 0#8, keyLen := key.length } }

/-- The reset state with `KRFC` pushed, `KEY_MAX` = 128. -/
def ready : State := withKey KeyMax.reference krfc State.reset

/-- The reset state with `KEY_MAX` = 4 after five pushes 31..35: full, KEY_OVF set. -/
def overfull : State :=
  let s := withKey KeyMax.least [0x31#8, 0x32#8, 0x33#8, 0x34#8] (State.resetWith KeyMax.least)
  { s with otp := { s.otp with keyOvf := true } }

/-- What an instruction leaves, as far as a vector names it: STATUS, CODE_LEN, CODE_VAL, KEY_LEN, COUNTER, NOW. -/
def outcome (i : Instr) (s : State) : Option (Word × Nat × Word × Nat × DWord × DWord) :=
  match exec i s with
  | .next t => some (statusWord t.otp, t.otp.codeLen, t.otp.codeVal, t.otp.keyLen, t.otp.counter, t.otp.now)
  | _ => none

/-- The characters of the code an instruction leaves. -/
def codeAfter (i : Instr) (s : State) : Option (List Byte) :=
  match exec i s with
  | .next t => some t.otp.code.toList
  | _ => none

/-- What a transaction returns. -/
def answer (i : Instr) (s : State) : Option (Option Word) :=
  match exec i s with
  | .next t => some t.response
  | _ => none

/-- The record an instruction leaves. -/
def recordAfter (i : Instr) (s : State) : Option OtpState :=
  match exec i s with
  | .next t => some t.otp
  | _ => none

/-! ## Register reads and writes -/

/-- V20. -/
theorem test_V20_reset_reads :
    [Instr.rdStatus, .rdDigits, .rdWindow, .rdCounterLo, .rdCounterHi, .rdNowLo, .rdNowHi, .rdKeyLen, .rdCodeLen, .rdCodeVal,
      .rdCode0, .rdCode9].map (fun i => answer i State.reset) =
    [0x0#32, 0x6#32, 0x1E#32, 0#32, 0#32, 0#32, 0#32, 0#32, 0#32, 0#32, 0#32, 0#32].map (fun v => some (some v)) := by
  decide +kernel

/-- V21, R122. -/
theorem test_V21_digits_stores_all_bits :
    (recordAfter (.wrDigits 0xFFFFFFFF#32) State.reset).map (·.digits) = some 0xFFFFFFFF#32 := by decide +kernel

/-- R123. -/
theorem test_window_write :
    (recordAfter (.wrWindow 60#32) State.reset).map (fun S => (S.window, S.digits)) = some (60#32, 6#32) := by decide +kernel

/-- V22 and R124. -/
theorem test_V22_counter_hi :
    (recordAfter (.wrCounterHi 1#32) State.reset).map (·.counter) = some 0x100000000#64 := by decide +kernel

/-- V23. -/
theorem test_V23_counter_lo_keeps_hi :
    (recordAfter (.wrCounterLo 0xAABBCCDD#32)
      { State.reset with otp := { State.reset.otp with counter := 0x1122334455667788#64 } }).map (·.counter) =
    some 0x11223344AABBCCDD#64 := by decide +kernel

/-- R125, the second half of V24. -/
theorem test_V24_now_minus_one :
    (recordAfter (.wrNowHi 0xFFFFFFFF#32) { State.reset with otp := { State.reset.otp with now := 0xFFFFFFFF#64 } }).map
      (fun S => (S.now.toInt, S.counter)) = some (-1, 0#64) ∧
    (recordAfter (.wrNowLo 59#32) State.reset).map (·.now.toInt) = some 59 := by decide +kernel

/-- V25: upper bits of a push are ignored. -/
theorem test_V25_push_ignores_upper_bits :
    (recordAfter (.wrKeyPush 0x132#32) (withKey KeyMax.reference [0x31#8] State.reset)).map
      (fun S => (S.key.take 3, S.keyLen, S.keyOvf)) = some ([0x31#8, 0x32#8, 0x00#8], 2, false) := by decide +kernel

/-- V26: the fifth byte of a four-byte buffer is dropped, STATUS reads 0x100. -/
theorem test_V26_push_into_full_buffer :
    (recordAfter (.wrKeyPush 0x35#32)
      (withKey KeyMax.least [0x31#8, 0x32#8, 0x33#8, 0x34#8] (State.resetWith KeyMax.least))).map
      (fun S => (S.key, S.keyLen, statusWord S)) = some ([0x31#8, 0x32#8, 0x33#8, 0x34#8], 4, 0x100#32) := by
  decide +kernel

/-- V26b: exactly `KEY_MAX` bytes fit. -/
theorem test_V26b_last_byte_fits :
    (recordAfter (.wrKeyPush 0x34#32) (withKey KeyMax.least [0x31#8, 0x32#8, 0x33#8] (State.resetWith KeyMax.least))).map
      (fun S => (S.key, S.keyLen, statusWord S)) = some ([0x31#8, 0x32#8, 0x33#8, 0x34#8], 4, 0#32) := by decide +kernel

/-- V27, on a state with a key and a full set of flags. -/
theorem test_V27_inert :
    [Instr.rdCmd, .rdKeyPush, .rdSlot12, .rdSlot63].map (fun i => answer i overfull) = List.replicate 4 (some (some 0#32)) ∧
    [Instr.wrStatus 0xFFFFFFFF#32, .wrKeyLen 5#32, .wrCode0 0x39#32, .wrSlot12 1#32, .wrSlot63 1#32].map
      (fun i => recordAfter i overfull) = List.replicate 5 (some overfull.otp) := by decide +kernel

/-! ## The functions -/

/-- V11, V12, V31. -/
theorem test_V31_encode :
    encodeCounter 0#64 = List.replicate 8 0#8 ∧
    encodeCounter 0x100000000#64 = [0x00#8, 0x00#8, 0x00#8, 0x01#8, 0x00#8, 0x00#8, 0x00#8, 0x00#8] ∧
    encodeCounter 0x0102030405060708#64 = [0x01#8, 0x02#8, 0x03#8, 0x04#8, 0x05#8, 0x06#8, 0x07#8, 0x08#8] := by
  decide +kernel

/-- V32, V33. -/
theorem test_V33_sha1 :
    beUint (sha1 []) = 0xda39a3ee5e6b4b0d3255bfef95601890afd80709 ∧
    beUint (sha1 [0x61#8, 0x62#8, 0x63#8]) = 0xa9993e364706816aba3e25717850c26c9cd0d89d := by decide +kernel

/-- V35, V36, V37: the padding's corners. -/
theorem test_V36_sha1_padding :
    beUint (sha1 (List.replicate 55 0x61#8)) = 0xc1c8bbdc22796e28c0e15163d20899b65621d65a ∧
    beUint (sha1 (List.replicate 56 0x61#8)) = 0xc2db330f6083854c99d4b5bfb6e8f29f201be699 ∧
    beUint (sha1 (List.replicate 64 0x61#8)) = 0x0098ba824b5c16427bd7a1122a5a442a25ec644d := by decide +kernel

/-- V44, V46, V47: the empty key, a key of one block, a key of 65 bytes. -/
theorem test_V47_hmac_key_lengths :
    beUint (hmacSha1 [] (encodeCounter 0#64)) = 0xdab69ad98e28764f977ee2487e4f3f6873b2a297 ∧
    beUint (hmacSha1 (List.replicate 64 0#8) (encodeCounter 0#64)) = 0xdab69ad98e28764f977ee2487e4f3f6873b2a297 ∧
    beUint (hmacSha1 (List.replicate 65 0#8) (encodeCounter 0#64)) = 0x694f9809cc6f68f20bcc362f55625aa9b643abcc := by
  decide +kernel

/-- V41 and V49. -/
theorem test_V41_hmac :
    beUint (hmacSha1 (List.replicate 20 0xaa#8) (List.replicate 50 0xdd#8)) = 0x125d7342b9ac11cd91a39af48aa17b4f63f175d3 ∧
    beUint (hmacSha1 [0x00#8, 0x01#8] (encodeCounter 0#64)) = 0xc2661b139af5d9dacde303a74d4a9dfe75a5f75b := by
  decide +kernel

/-- V50 to V54. -/
theorem test_V50_truncation :
    [0x000102030405060708090a0b0c0d0e0f10111213, 0xffffffffffffffffffffffffffffffffffffffff,
      0x80000000000000000000000000000000000000f0, 0x000000000000000000000000000000800000010f,
      0x000000000000000000000000000000ffffffff2e].map (fun m => (dtOffset (beBytes 20 m), dtValue (beBytes 20 m))) =
    [(3, 50595078), (15, 2147483647), (0, 0), (15, 1), (14, 16777215)] := by decide +kernel

/-- V57, V58, V59, V60c. -/
theorem test_V57_format :
    [(1, 10), (2147483647, 10), (2147483647, 9), (1204026920, 6)].map
      (fun p => (reduce p.1 p.2, beUint (formatCode (reduce p.1 p.2) p.2))) =
    [(1, 0x30303030303030303031), (2147483647, 0x32313437343833363437), (147483647, 0x313437343833363437),
      (26920, 0x303236393230)] := by decide +kernel

/-! ## HOTP -/

/-- V1 and R182. -/
theorem test_V1_hotp :
    outcome .hotp ready = some (0x001#32, 6, 755224#32, 0, 0#64, 0#64) ∧
    codeAfter .hotp ready = some [0x37#8, 0x35#8, 0x35#8, 0x32#8, 0x32#8, 0x34#8, 0x00#8, 0x00#8, 0x00#8, 0x00#8] := by
  decide +kernel

/-- V75: ten digits, padded; the command as `WR CMD, 1`. -/
theorem test_V75_hotp_ten_digits :
    codeAfter (.wrCmd 1#32) { ready with otp := { ready.otp with counter := 7#64, digits := 10#32 } } =
    some [0x30#8, 0x30#8, 0x38#8, 0x32#8, 0x31#8, 0x36#8, 0x32#8, 0x35#8, 0x38#8, 0x33#8] := by decide +kernel

/-- V86 and V13: a failure removes the code held before, the key too. -/
theorem test_V86_hotp_digits_zero :
    outcome .hotp { ready with otp := { ready.otp with
      digits := 0#32, ok := true, codeLen := 6, codeVal := 755224#32, code := codeBytes (formatCode 755224 6) } } =
    some (0x012#32, 0, 0#32, 0, 0#64, 0#64) := by decide +kernel

/-- V84 and V85: KEY_TOO_LONG, and INVALID_ARGUMENT before it. -/
theorem test_V85_priority :
    outcome .hotp overfull = some (0x042#32, 0, 0#32, 0, 0#64, 0#64) ∧
    outcome .hotp { overfull with otp := { overfull.otp with digits := 0#32 } } =
      some (0x012#32, 0, 0#32, 0, 0#64, 0#64) := by
  constructor <;> decide +kernel

/-! ## TOTP and LDTIME -/

/-- V90 and R207. -/
theorem test_V90_totp :
    outcome .totp { ready with otp := { ready.otp with digits := 8#32, now := 59#64 } } =
    some (0x001#32, 8, 94287082#32, 0, 1#64, 59#64) := by decide +kernel

/-- V105: the greatest time and the greatest window; the command as `WR CMD, 2`. -/
theorem test_V105_totp_corner :
    outcome (.wrCmd 2#32) { ready with otp := { ready.otp with window := 0xFFFFFFFF#32, now := 0x7FFFFFFFFFFFFFFF#64 } } =
    some (0x001#32, 6, 197202#32, 0, 2147483648#64, 0x7FFFFFFFFFFFFFFF#64) := by decide +kernel

/-- V111 and V106: WINDOW 0 and a negative NOW fail, COUNTER keeps its value. -/
theorem test_V111_totp_failures :
    outcome .totp { ready with otp := { ready.otp with counter := 7#64, window := 0#32 } } =
      some (0x012#32, 0, 0#32, 0, 7#64, 0#64) ∧
    outcome .totp { ready with otp := { ready.otp with counter := 7#64, now := 0x8000000000000000#64 } } =
      some (0x012#32, 0, 0#32, 0, 7#64, 0x8000000000000000#64) := by
  constructor <;> decide +kernel

/-- V113: the key and the code stay. -/
theorem test_V113_ldtime :
    outcome .ldtime { ready with timeIn := [1111111109#64] } =
    some (0x001#32, 0, 0#32, 20, 0#64, 0x00000000423A35C5#64) := by decide +kernel

/-- V115: LDTIME leaves KEY_OVF, here as `WR CMD, 3`. -/
theorem test_V115_ldtime_keeps_overflow :
    outcome (.wrCmd 3#32) { overfull with timeIn := [5#64, 6#64] } = some (0x101#32, 0, 0#32, 4, 0#64, 5#64) := by
  decide +kernel

/-! ## CLEAR and illegal words -/

/-- V117 and V118. -/
theorem test_V117_clear :
    outcome .clear { ready with otp := { ready.otp with
      digits := 8#32, counter := 5#64, codeLen := 6, codeVal := 755224#32, code := codeBytes (formatCode 755224 6) } } =
      some (0x001#32, 0, 0#32, 0, 5#64, 0#64) ∧
    outcome (.wrCmd 4#32) overfull = some (0x001#32, 0, 0#32, 0, 0#64, 0#64) := by
  constructor <;> decide +kernel

/-- V119: an illegal word leaves the key and the code. -/
theorem test_V119_illegal_keeps_key_and_code :
    outcome .illegalOpc0 { ready with otp := { ready.otp with codeLen := 6, codeVal := 755224#32 } } =
    some (0x032#32, 6, 755224#32, 20, 0#64, 0#64) := by decide +kernel

/-- V120 and R223: the words of the vector as data of `WR CMD`, and KEY_OVF set. -/
theorem test_V120_illegal_words :
    [0x00000005#32, 0x0000000F#32, 0x00000010#32, 0x00000011#32, 0x80000002#32, 0xFFFFFFFF#32].map
      (fun w => (recordAfter (.wrCmd w) overfull).map statusWord) = List.replicate 6 (some 0x132#32) := by decide +kernel

/-! ## Steps -/

/-- The very next step runs the placed word, and the host's other events wait. -/
theorem test_step_runs_placed_word :
    (match step ((State.reset.putEvent .reset).withFetchWord 40 0x4200000008) with
      | .next t => some (t.otp.digits, t.inputs)
      | _ => none) = some (8#32, [.reset]) ∧
    (match step (State.reset.withFetchWord 32 0x00000011) with
      | .next t => some (statusWord t.otp)
      | _ => none) = some 0x032#32 := by decide +kernel

/-- R260: a reset drops the key and the flags. -/
theorem test_step_reset :
    (match step (overfull.putEvent .reset) with
      | .next t => some (t.otp.key, t.otp.keyLen, statusWord t.otp, t.otp.digits)
      | _ => none) = some ([0#8, 0#8, 0#8, 0#8], 0, 0#32, 6#32) := by decide +kernel

/-- R63, R102: byte offsets and the expansions of the pseudo-instructions. -/
theorem test_pseudo_instructions :
    (byteOffset 63#6, byteOffset 11#6) = (0xFC, 0x2C) ∧
    setCtr 0x100000000#64 = [.wrCounterLo 0#32, .wrCounterHi 1#32] ∧
    setNow (-2) = [.wrNowLo 0xFFFFFFFE#32, .wrNowHi 0xFFFFFFFF#32] ∧
    keyHex [0x31#8, 0xFF#8] = [.wrKeyPush 0x31#32, .wrKeyPush 0xFF#32] ∧ keyHex [] = [] ∧
    keyStr "12" = some [.wrKeyPush 0x31#32, .wrKeyPush 0x32#32] ∧ keyStr "é" = none ∧
    totpNow = [.ldtime, .totp] := by decide +kernel

/-- R103: the call with the default time has LDTIME in the place of SETNOW, and CLEAR comes only before a call that may find a partial
key. -/
theorem test_calls_expand :
    hotpCall true [0x31#8] 7#64 6#32 =
      [.clear, .wrKeyPush 0x31#32, .wrCounterLo 7#32, .wrCounterHi 0#32, .wrDigits 6#32, .hotp] ∧
    totpCall false [0x31#8] 8#32 30#32 .current = [.wrKeyPush 0x31#32, .wrDigits 8#32, .wrWindow 30#32, .ldtime, .totp] ∧
    totpCall false [] 8#32 30#32 (.fixed 59) =
      [.wrDigits 8#32, .wrWindow 30#32, .wrNowLo 59#32, .wrNowHi 0#32, .totp] := by decide +kernel

/-! ## States that meet the hypotheses of the statements -/

theorem witness_wellFormed :
    wellFormed .hotp = true ∧ wellFormed (.illegalRsvd31 0x80000000#32) = true ∧
    wellFormed (.illegalRsvd4 0xFFFFFFFF#32) = true ∧ wellFormed (.wrSlot63 0xFFFFFFFF#32) = true := by decide +kernel

theorem witness_directions :
    tWe (readWord 0#6) = false ∧ tWe (readWord 63#6) = false ∧ tWe (writeWord 0#6 5#32) = true ∧
    tWe (writeWord 63#6 0#32) = true ∧ tIdx (writeWord 0#6 5#32) = 0#6 ∧ tIdx (writeWord 63#6 0#32) ≠ 0#6 := by
  decide +kernel

theorem witness_table_words :
    (decodeTableWord 32 0xFFFFFFFF).isSome = true ∧ (decodeTableWord 40 0x7FFFFFFFFF).isSome = true := by decide +kernel

theorem witness_inputs :
    (State.reset.putEvent .reset).inputs = .reset :: [] ∧
    (State.reset.withFetchWord 40 0).inputs = .word (.transaction 0#39) :: [] ∧ State.reset.inputs = [] := by
  decide +kernel

/-- Room for one byte, and a full buffer. -/
theorem witness_push :
    (withKey KeyMax.least [1#8, 2#8, 3#8] (State.resetWith KeyMax.least)).otp.keyLen < KeyMax.least.bytes ∧
    KeyMax.least.bytes ≤ overfull.otp.keyLen ∧ overfull.keyMax = KeyMax.least := by decide +kernel

/-- The least and the greatest DIGITS that pass. -/
theorem witness_hotpPasses (d : Word) (h : d = 1#32 ∨ d = 10#32) :
    Spec.HotpPasses { ready.otp with digits := d } := by
  rcases h with rfl | rfl <;> exact ⟨by decide, by decide, rfl⟩

/-- DIGITS 0, 11 and the greatest; and KEY_OVF with legal DIGITS. -/
theorem witness_hotpRejects :
    ({ ready.otp with digits := 0#32 } : OtpState).digits = 0#32 ∧
    10 < ({ ready.otp with digits := 11#32 } : OtpState).digits.toNat ∧
    10 < ({ ready.otp with digits := 0xFFFFFFFF#32 } : OtpState).digits.toNat ∧
    (1 ≤ overfull.otp.digits.toNat ∧ overfull.otp.digits.toNat ≤ 10 ∧ overfull.otp.keyOvf = true) := by decide +kernel

/-- The corners of the times and windows that pass. -/
theorem witness_totpPasses :
    Spec.TotpPasses { ready.otp with window := 1#32, now := 0#64 } ∧
    Spec.TotpPasses { ready.otp with window := 0xFFFFFFFF#32, now := 0x7FFFFFFFFFFFFFFF#64 } :=
  ⟨⟨by decide, by decide, by decide, by decide, rfl⟩, ⟨by decide, by decide, by decide, by decide, rfl⟩⟩

/-- WINDOW 0, NOW just negative; and KEY_OVF with everything else legal. -/
theorem witness_totpRejects :
    ({ ready.otp with window := 0#32 } : OtpState).window = 0#32 ∧
    ({ ready.otp with now := 0x8000000000000000#64 } : OtpState).now.msb = true ∧
    (1 ≤ overfull.otp.digits.toNat ∧ overfull.otp.digits.toNat ≤ 10 ∧ overfull.otp.window ≠ 0#32 ∧
      overfull.otp.now.msb = false ∧ overfull.otp.keyOvf = true) := by decide +kernel

/-- A TOTP that passes, and the state it leaves. -/
theorem witness_totp_then_hotp :
    Spec.TotpPasses { ready.otp with window := 1#32, now := 0#64 } ∧
    ∃ t, exec .totp { ready with otp := { ready.otp with window := 1#32, now := 0#64 } } = .next t :=
  ⟨witness_totpPasses.1, _, rfl⟩

/-- The first and the last members of the lists of instructions, and words for each case of `WR CMD`. -/
theorem witness_lists :
    Instr.rdStatus ∉ Spec.codeBufferReads ∧ Instr.rdCode9 ∈ Spec.codeBufferReads ∧ Spec.codeBufferReads.length = 12 ∧
    Instr.rdSlot12 ∈ Spec.reservedReads ∧ Instr.rdSlot63 ∈ Spec.reservedReads ∧ Spec.reservedReads.length = 42 ∧
    Instr.wrStatus 7#32 ∈ Spec.inertWrites 7#32 ∧ Instr.wrSlot63 7#32 ∈ Spec.inertWrites 7#32 ∧
    (Spec.inertWrites 7#32).length = 56 ∧
    Instr.illegalOpc0 ∈ Spec.illegalOpcodes ∧ Instr.illegalOpc15 ∈ Spec.illegalOpcodes ∧ Spec.illegalOpcodes.length = 12 ∧
    Instr.illegalRsvd4 0x10#32 ∈ Spec.illegalReserved 0x10#32 ∧ (Spec.illegalReserved 0x10#32).length = 28 ∧
    ((0#32 : Word) ≠ 1#32 ∧ (0#32 : Word) ≠ 2#32 ∧ (0#32 : Word) ≠ 3#32 ∧ (0#32 : Word) ≠ 4#32) := by decide +kernel

theorem witness_draws :
    ({ ready with timeIn := [7#64] } : State).timeIn = 7#64 :: [] ∧ ready.timeIn = [] := by decide +kernel

theorem witness_commands :
    commandOf .hotp = some .hotp ∧ commandOf (.wrCmd 2#32) = some .totp ∧ commandOf .ldtime = some .ldtime ∧
    commandOf (.wrCmd 4#32) = some .clear ∧ commandOf (.illegalRsvd9 0x200#32) = some .illegal ∧
    commandOf .rdStatus = none ∧ commandOf (.wrKeyPush 0#32) = none ∧
    decodeCmd 0#32 = .illegal ∧ decodeCmd 5#32 = .illegal ∧ decodeCmd 0xFFFFFFFF#32 = .illegal := by decide +kernel

theorem witness_exec (i : Instr) (hi : i = .rdStatus ∨ i = .hotp ∨ i = .ldtime ∨ i = .wrDigits 1#32) :
    ∃ t, exec i ready = .next t := by
  rcases hi with rfl | rfl | rfl | rfl <;> exact ⟨_, rfl⟩

/-- The invariants hold of a state with a full buffer, KEY_OVF, a failure and a code at once. -/
theorem witness_inv_full :
    State.Inv { overfull with otp := { overfull.otp with
      err := true, errCode := 3#4, codeLen := 1, codeVal := 7#32,
      code := #v[0x37#8, 0#8, 0#8, 0#8, 0#8, 0#8, 0#8, 0#8, 0#8, 0#8] } } := by
  refine ⟨⟨by decide, by decide, fun i hi => ?_⟩, ⟨by decide, by decide, by decide, fun _ => by decide⟩,
    .inr ⟨by decide, by decide, by decide, by decide, by decide⟩⟩
  have hi : 4 ≤ i := hi
  show byteAt [0x31#8, 0x32#8, 0x33#8, 0x34#8] i = 0#8
  simp [byteAt, hi]

/-- A state whose buffer has room for one byte more meets the invariants. -/
theorem witness_inv_room :
    let s := withKey KeyMax.least [1#8, 2#8, 3#8] (State.resetWith KeyMax.least)
    s.Inv ∧ s.otp.keyLen < s.keyMax.bytes ∧ s.otp.keyLen + ([9#8] : List Byte).length ≤ s.keyMax.bytes := by
  refine ⟨⟨⟨by decide, by decide, fun i hi => ?_⟩, ⟨by decide, by decide, by decide, fun h => absurd h (by decide)⟩,
    .inl ⟨by decide, by decide, by decide⟩⟩, by decide, by decide⟩
  have hi : 3 ≤ i := hi
  show byteAt [1#8, 2#8, 3#8, 0#8] i = 0#8
  rcases Nat.lt_or_ge i 4 with h | h
  · obtain rfl : i = 3 := by omega
    decide
  · simp [byteAt, h]

/-- A full buffer after a failed call, with either failure of a call (log 7). -/
theorem witness_overflow_after_failure (E : BitVec 4) (h : E = 1#4 ∨ E = 4#4) :
    ∃ s : State, s.keyMax.bytes ≤ s.otp.keyLen ∧ s.otp.errCode = E ∧
      (exec .rdStatus s = .next (Spec.answered s 0x012#32) ∨ exec .rdStatus s = .next (Spec.answered s 0x042#32)) := by
  rcases h with rfl | rfl
  · exact ⟨{ overfull with otp := { overfull.otp with keyOvf := false, err := true, errCode := 1#4 } },
      by decide, rfl, .inl rfl⟩
  · exact ⟨{ overfull with otp := { overfull.otp with keyOvf := false, err := true, errCode := 4#4 } },
      by decide, rfl, .inr rfl⟩

theorem witness_sameBut :
    Spec.SameButKey ready.otp { ready.otp with key := List.replicate 128 1#8 } ∧
    Spec.SameButCode ready.otp { ready.otp with codeLen := 6, codeVal := 755224#32 } ∧
    Spec.SameButOutcome ready.otp { ready.otp with err := true, errCode := 4#4 } := ⟨rfl, rfl, rfl⟩

/-- Two different states with the same key, counter, digits and KEY_OVF. -/
theorem witness_hotpDetermined :
    let s' : State := { ready with otp := { ready.otp with window := 0#32, now := 5#64, ok := true } }
    s' ≠ ready ∧ keyOperand s'.otp = keyOperand ready.otp ∧ s'.otp.counter = ready.otp.counter ∧
    s'.otp.digits = ready.otp.digits ∧ s'.otp.keyOvf = ready.otp.keyOvf := by decide +kernel

/-- The reset state meets the invariants and has an empty buffer, into which a key of the whole capacity fits. -/
theorem witness_inv_reset :
    State.reset.Inv ∧ State.reset.otp.keyLen = 0 ∧ (List.replicate 128 0xFF#8 : List Byte).length ≤ State.reset.keyMax.bytes := by
  refine ⟨⟨⟨List.length_replicate, Nat.zero_le _, fun i _ => byteAt_replicate_zero _ i⟩,
    ⟨by decide, by decide, by decide, fun h => absurd h (by decide)⟩, .inl ⟨rfl, fun i => ?_, rfl⟩⟩, rfl, by decide +kernel⟩
  fin_cases i <;> rfl

/-- The least and the greatest operands of the library calls, from a state of which a call may begin without CLEAR and, with CLEAR,
from one with a full buffer; another order of the writes than R103 lists; a key that fits and one that does not. -/
theorem witness_calls :
    Spec.MayOmitClear State.reset ∧ ((true = false) → Spec.MayOmitClear overfull) ∧
    InAnyOrder [.wrDigits 1#32, .wrCounterHi 0#32, .wrKeyPush 1#32, .wrCounterLo 5#32, .wrKeyPush 2#32]
      (hotpWrites [1#8, 2#8] 5#64 1#32) ∧
    InAnyOrder [.ldtime, .wrKeyPush 1#32, .wrWindow 0xFFFFFFFF#32, .wrDigits 10#32]
      (totpWrites [1#8] 10#32 0xFFFFFFFF#32 .current) ∧
    (([1#8, 2#8] : List Byte).length ≤ KeyMax.least.bytes ∧ KeyMax.least.bytes < (List.replicate 5 1#8 : List Byte).length) ∧
    (1 ≤ (1#32 : Word).toNat ∧ (10#32 : Word).toNat ≤ 10 ∧ (0xFFFFFFFF#32 : Word) ≠ 0#32) ∧
    (Spec.TimeFits (.fixed (2 ^ 63 - 1)) ∧ 0 ≤ Spec.timeOf (.fixed (2 ^ 63 - 1)) State.reset) ∧
    (Spec.TimeFits (.fixed (-2 ^ 63)) ∧ Spec.timeOf (.fixed (-2 ^ 63)) State.reset < 0) ∧
    (Spec.TimeFits .current ∧ Spec.timeOf .current { State.reset with timeIn := [5#64] } = 5) := by
  refine ⟨⟨witness_inv_reset.1, rfl⟩, fun h => absurd h (by decide), ⟨?_, ?_⟩, ⟨?_, ?_⟩, ?_, ?_, ?_, ?_, ⟨trivial, ?_⟩⟩
  all_goals first
    | decide +kernel
    | exact ⟨⟨by decide, by decide⟩, by decide⟩

/-- 30 and 59 lie in one bucket of 30 seconds (V15). -/
theorem witness_bucket :
    Spec.TotpPasses { ready.otp with now := 30#64 } ∧ 0 ≤ (59#64 : DWord).toInt ∧
    (59#64 : DWord).toNat / ready.otp.window.toNat = (30#64 : DWord).toNat / ready.otp.window.toNat :=
  ⟨⟨by decide, by decide, by decide, by decide, rfl⟩, by decide, by decide⟩

theorem witness_lengths :
    (0 < 1 ∧ 1 < 32 ∧ 0 < 31 ∧ 31 < 32) ∧ 64 * 1 + 64 ≤ (List.replicate 128 0#8 : List Byte).length ∧
    (List.replicate 64 0#8 : List Byte).length = 64 ∧
    (List.replicate 80 0#32 : List Word).length = 80 ∧ 64 < (List.replicate 65 0#8 : List Byte).length ∧
    (List.replicate 20 0#8 : List Byte).length + 44 ≤ 64 ∧ (List.replicate 20 0#8 : List Byte).length = 20 ∧
    (List.replicate 19 0#8 : List Byte).length = 19 ∧ (0x1F#8 : Byte).extractLsb' 0 4 = (0xAF#8 : Byte).extractLsb' 0 4 ∧
    (0x1F#8 : Byte) ≠ 0xAF#8 := by decide +kernel

/-- The least and the greatest length, and the greatest value. -/
theorem witness_decimal :
    (1 ≤ 9 ∧ 9 ≤ 9 ∧ (List.replicate 9 0x39#8 : List Byte).length = 9 ∧
      ∀ ch ∈ (List.replicate 9 0x39#8 : List Byte), Spec.IsDecimalChar ch) ∧
    ((2147483647 : Nat) < 2 ^ 31 ∧ 1 ≤ 10 ∧ 10 ≤ 10) := by
  refine ⟨⟨by decide, by decide, by decide, fun ch h => ?_⟩, by decide⟩
  obtain rfl := List.eq_of_mem_replicate h
  exact ⟨by decide, by decide⟩

end Sys2Proof.Tests
end

/-! PROOFS. The state (spec/10_state.md): the outcome fields, the key buffer and STATUS, what each command and each step does to them. -/

namespace Sys2Proof.Machine

/-! ## What a step and a command come to -/

/-- The three things a step does: nothing while the host is idle, a reset, or the instruction of the next word. -/
theorem step_cases {s t : State} (h : step s = .next t) :
    t = s ∨ (∃ rest, t = State.resetEvent { s with inputs := rest }) ∨
    ∃ i rest, exec i { s with inputs := rest } = .next t := by
  cases hin : s.inputs with
  | nil =>
    simp only [step, takeEvent_nil hin] at h
    exact .inl (Host.Outcome.next.inj h).symm
  | cons e rest =>
    cases e with
    | reset =>
      simp only [step, takeEvent_cons hin] at h
      exact .inr (.inl ⟨rest, (Host.Outcome.next.inj h).symm⟩)
    | word b =>
      simp only [step, takeEvent_cons hin] at h
      exact .inr (.inr ⟨decodeWord b, rest, h⟩)

/-- A reset event that waits first is what the step does. -/
theorem step_of_reset {s : State} {rest : List HostEvent} (h : s.inputs = .reset :: rest) :
    step s = .next (State.resetEvent { s with inputs := rest }) := by
  simp [step, takeEvent_cons h]

/-- The next state of an instruction that runs a command is the command's. -/
theorem eq_runCmd_of_exec {i : Instr} {c : Cmd} {s t : State} (hc : commandOf i = some c) (he : exec i s = .next t) :
    t = runCmd c s :=
  (Host.Outcome.next.inj ((exec_of_commandOf hc s).symm.trans he)).symm

section runCmd
variable (c : Cmd) (s : State)
@[simp] theorem runCmd_keyMax : (runCmd c s).keyMax = s.keyMax := by cases c <;> rfl
@[simp] theorem runCmd_hotp_otp : (runCmd .hotp s).otp = doHotp s.keyMax.bytes s.otp := rfl
@[simp] theorem runCmd_totp_otp : (runCmd .totp s).otp = doTotp s.keyMax.bytes s.otp := rfl
@[simp] theorem runCmd_ldtime_otp : (runCmd .ldtime s).otp = doLdtime s.drawnTime s.otp := rfl
@[simp] theorem runCmd_clear_otp : (runCmd .clear s).otp = doClear s.keyMax.bytes s.otp := rfl
@[simp] theorem runCmd_illegal_otp : (runCmd .illegal s).otp = failIllegal s.otp := rfl
end runCmd

section keyPush
variable (k : Nat) (b : Byte) (S : OtpState)
@[simp] theorem keyPush_ok : (keyPush k b S).ok = S.ok := by unfold keyPush; split <;> rfl
@[simp] theorem keyPush_err : (keyPush k b S).err = S.err := by unfold keyPush; split <;> rfl
@[simp] theorem keyPush_errCode : (keyPush k b S).errCode = S.errCode := by unfold keyPush; split <;> rfl
@[simp] theorem keyPush_code : (keyPush k b S).code = S.code := by unfold keyPush; split <;> rfl
@[simp] theorem keyPush_codeLen : (keyPush k b S).codeLen = S.codeLen := by unfold keyPush; split <;> rfl
@[simp] theorem keyPush_codeVal : (keyPush k b S).codeVal = S.codeVal := by unfold keyPush; split <;> rfl
end keyPush

/-! ## The outcome of a command (R29) -/

/-- The outcome fields as a write to CMD leaves them: success, or a failure with a code that a command produces (R29, R233). -/
def OutcomeSet (S : OtpState) : Prop :=
  (S.ok = true ∧ S.err = false ∧ S.errCode = 0#4) ∨
  (S.ok = false ∧ S.err = true ∧ (S.errCode = 1#4 ∨ S.errCode = 3#4 ∨ S.errCode = 4#4))

theorem setSuccess_outcomeSet (S : OtpState) : OutcomeSet (setSuccess S) := .inl ⟨rfl, rfl, rfl⟩

theorem setFailure_outcomeSet {E : Failure} (hE : E ≠ .overflow) (S : OtpState) : OutcomeSet (setFailure E S) := by
  refine .inr ⟨rfl, rfl, ?_⟩
  cases E with
  | invalidArgument => exact .inl rfl
  | overflow => exact absurd rfl hE
  | illegalCommand => exact .inr (.inl rfl)
  | keyTooLong => exact .inr (.inr rfl)

/-- HOTP never fails with OVERFLOW (R233). -/
theorem ne_overflow_of_validateHotp {S : OtpState} {E : Failure} (h : validateHotp S = some E) : E ≠ .overflow := by
  rcases validateHotp_eq_some h with ⟨rfl, -⟩ | ⟨rfl, -⟩ <;> simp

/-- TOTP never fails with OVERFLOW (R233). -/
theorem ne_overflow_of_validateTotp {S : OtpState} {E : Failure} (h : validateTotp S = some E) : E ≠ .overflow := by
  rcases validateTotp_eq_some h with ⟨rfl, -⟩ | ⟨rfl, -⟩ <;> simp

theorem doHotp_outcomeSet (k : Nat) (S : OtpState) : OutcomeSet (doHotp k S) := by
  rcases doHotp_cases k S with ⟨E, hv, hd⟩ | ⟨-, hd⟩ <;> rw [hd]
  · exact setFailure_outcomeSet (ne_overflow_of_validateHotp hv) _
  · exact setSuccess_outcomeSet _

theorem doTotp_outcomeSet (k : Nat) (S : OtpState) : OutcomeSet (doTotp k S) := by
  rcases doTotp_cases k S with ⟨E, hv, hd⟩ | ⟨-, hd⟩ <;> rw [hd]
  · exact setFailure_outcomeSet (ne_overflow_of_validateTotp hv) _
  · exact setSuccess_outcomeSet _

/-- Every command sets the outcome anew. -/
theorem runCmd_outcomeSet (c : Cmd) (s : State) : OutcomeSet (runCmd c s).otp := by
  cases c with
  | hotp => exact doHotp_outcomeSet _ _
  | totp => exact doTotp_outcomeSet _ _
  | ldtime | clear => exact setSuccess_outcomeSet _
  | illegal => exact setFailure_outcomeSet (by decide) _

theorem doHotp_ok_iff (k : Nat) (S : OtpState) : (doHotp k S).ok = true ↔ Spec.HotpPasses S := by
  rw [Spec.HotpPasses, ← validateHotp_eq_none_iff]
  rcases doHotp_cases k S with ⟨E, hv, hd⟩ | ⟨hv, hd⟩ <;> simp [hd, hv, failCall, succeedCall]

/-- TOTP's validation passes exactly under the spec's conditions (R203). -/
theorem validateTotp_eq_none_iff_totpPasses (S : OtpState) : validateTotp S = none ↔ Spec.TotpPasses S := by
  simp [validateTotp_eq_none_iff, Spec.TotpPasses, BitVec.toNat_eq]

theorem doTotp_ok_iff (k : Nat) (S : OtpState) : (doTotp k S).ok = true ↔ Spec.TotpPasses S := by
  rw [← validateTotp_eq_none_iff_totpPasses]
  rcases doTotp_cases k S with ⟨E, hv, hd⟩ | ⟨hv, hd⟩ <;> simp [hd, hv, failCall, succeedCall]

/-- HOTP takes nothing from the old outcome. -/
theorem doHotp_withOutcome (k : Nat) (S : OtpState) (o e : Bool) (x : BitVec 4) :
    doHotp k { S with ok := o, err := e, errCode := x } = doHotp k S := by
  have hv : validateHotp { S with ok := o, err := e, errCode := x } = validateHotp S := rfl
  unfold doHotp
  rw [hv]
  cases validateHotp S <;> rfl

/-- TOTP takes nothing from the old outcome. -/
theorem doTotp_withOutcome (k : Nat) (S : OtpState) (o e : Bool) (x : BitVec 4) :
    doTotp k { S with ok := o, err := e, errCode := x } = doTotp k S := by
  have hv : validateTotp { S with ok := o, err := e, errCode := x } = validateTotp S := rfl
  unfold doTotp
  rw [hv]
  cases validateTotp S <;> rfl

/-- No command takes anything from the old outcome (R29). -/
theorem runCmd_sameButOutcome (c : Cmd) {s : State} {S' : OtpState} (h : Spec.SameButOutcome s.otp S') :
    runCmd c { s with otp := S' } = runCmd c s := by
  rw [h]
  cases c with
  | hotp => exact congrArg s.completeWrite (doHotp_withOutcome _ _ _ _ _)
  | totp => exact congrArg s.completeWrite (doTotp_withOutcome _ _ _ _ _)
  | ldtime | clear | illegal => rfl

/-- A transaction that is no write to CMD leaves the outcome. -/
theorem exec_outcome_of_commandOf_none {i : Instr} {s t : State} (hi : commandOf i = none) (he : exec i s = .next t) :
    t.otp.ok = s.otp.ok ∧ t.otp.err = s.otp.err ∧ t.otp.errCode = s.otp.errCode := by
  rcases exec_cases i s with ⟨-, v, h⟩ | ⟨-, h⟩ | ⟨v, -, h⟩ | ⟨v, -, h⟩ | ⟨v, -, h⟩ | ⟨v, -, h⟩ | ⟨v, -, h⟩ | ⟨v, -, h⟩ |
    ⟨v, -, h⟩ | ⟨c, hc, -⟩
  iterate 9
    obtain rfl := Host.Outcome.next.inj (h.symm.trans he)
    simp
  · simp [hi] at hc

/-! ## The key a command leaves (R37) -/

/-- There is no key: the buffer is all zeros, nothing is loaded and nothing was lost. -/
structure NoKey (keyMax : Nat) (S : OtpState) : Prop where
  zeros : S.key = List.replicate keyMax 0#8
  len : S.keyLen = 0
  ovf : S.keyOvf = false

theorem NoKey.keyOperand_eq_nil {k : Nat} {S : OtpState} (h : NoKey k S) : keyOperand S = [] := by
  simp [keyOperand, h.len]

theorem NoKey.keyInv {k : Nat} {S : OtpState} (h : NoKey k S) : KeyInv k S :=
  (clearKey_keyInv k S).of_eq h.zeros h.len

theorem reset_noKey (k : Nat) : NoKey k (OtpState.reset k) := ⟨rfl, rfl, rfl⟩

theorem failCall_noKey (k : Nat) (E : Failure) (S : OtpState) : NoKey k (failCall k E S) := ⟨rfl, rfl, rfl⟩

theorem succeedCall_noKey (k : Nat) (c : DWord) (S : OtpState) : NoKey k (succeedCall k c S) := ⟨rfl, rfl, rfl⟩

theorem doClear_noKey (k : Nat) (S : OtpState) : NoKey k (doClear k S) := ⟨rfl, rfl, rfl⟩

theorem doHotp_noKey (k : Nat) (S : OtpState) : NoKey k (doHotp k S) := by
  rcases doHotp_cases k S with ⟨E, -, hd⟩ | ⟨-, hd⟩ <;> rw [hd]
  · exact failCall_noKey k E S
  · exact succeedCall_noKey k _ S

theorem doTotp_noKey (k : Nat) (S : OtpState) : NoKey k (doTotp k S) := by
  rcases doTotp_cases k S with ⟨E, -, hd⟩ | ⟨-, hd⟩ <;> rw [hd]
  · exact failCall_noKey k E S
  · exact succeedCall_noKey k _ _

/-! ## The invariants (R20, R31, R36, R38) -/

/-- A record whose outcome a command set meets the invariant of the flags when KEY_OVF does. -/
theorem OutcomeSet.flagInv {k : Nat} {S : OtpState} (h : OutcomeSet S) (hovf : S.keyOvf = true → S.keyLen = k) :
    FlagInv k S := by
  rcases h with ⟨hok, herr, hcode⟩ | ⟨hok, herr, hcode⟩
  · exact ⟨by simp [herr], by simp [herr, hcode], .inl hcode, hovf⟩
  · refine ⟨by simp [hok], ?_, .inr hcode, hovf⟩
    rcases hcode with hcode | hcode | hcode <;> simp [herr, hcode]

/-- The invariant of the flags speaks of the flags and KEY_LEN alone. -/
theorem FlagInv.of_eq {k : Nat} {S T : OtpState} (h : FlagInv k S) (hok : T.ok = S.ok) (herr : T.err = S.err)
    (hcode : T.errCode = S.errCode) (hovf : T.keyOvf = true → T.keyLen = k) : FlagInv k T where
  notBoth := by rw [hok, herr]; exact h.notBoth
  codeIffErr := by rw [hcode, herr]; exact h.codeIffErr
  legalCode := by rw [hcode]; exact h.legalCode
  overflowFull := hovf

/-- A push into a buffer within its bounds leaves KEY_OVF set only with a full buffer. -/
theorem keyPush_overflowFull {k : Nat} {S : OtpState} (b : Byte) (hfill : S.keyLen ≤ k)
    (hovf : S.keyOvf = true → S.keyLen = k) : (keyPush k b S).keyOvf = true → (keyPush k b S).keyLen = k := by
  rcases Nat.lt_or_ge S.keyLen k with hk | hk
  · rw [keyPush_of_room b hk]
    intro h
    exact absurd (hovf h) hk.ne
  · rw [keyPush_of_full b hk]
    exact fun _ => Nat.le_antisymm hfill hk

/-- A record without a key whose outcome a command set meets the invariants when its code buffer does. -/
theorem NoKey.inv {k : Nat} {S : OtpState} (hkey : NoKey k S) (hout : OutcomeSet S) (hcode : CodeInv S) : S.Inv k :=
  ⟨hkey.keyInv, hout.flagInv (by simp [hkey.ovf]), hcode⟩

/-- The invariants are kept where only the outcome is set anew and the operand registers change. -/
theorem OtpState.Inv.of_outcomeSet {k : Nat} {S T : OtpState} (h : S.Inv k) (hout : OutcomeSet T)
    (hT : T = { S with digits := T.digits, window := T.window, counter := T.counter, now := T.now,
                       ok := T.ok, err := T.err, errCode := T.errCode }) : T.Inv k := by
  rw [hT] at hout ⊢
  exact ⟨h.key.of_eq rfl rfl, hout.flagInv h.flags.overflowFull, h.code.of_eq rfl rfl rfl⟩

/-- The invariants do not speak of the operand registers. -/
theorem OtpState.Inv.withOperands {k : Nat} {S : OtpState} (h : S.Inv k) (d w : Word) (c n : DWord) :
    OtpState.Inv k { S with digits := d, window := w, counter := c, now := n } :=
  ⟨h.key.of_eq rfl rfl, h.flags.of_eq rfl rfl rfl h.flags.overflowFull, h.code.of_eq rfl rfl rfl⟩

theorem reset_inv (k : Nat) : (OtpState.reset k).Inv k where
  key := (reset_noKey k).keyInv
  flags := ⟨by simp [OtpState.reset], by simp [OtpState.reset], .inl rfl, by simp [OtpState.reset]⟩
  code := .inl (clearCode_noCode (OtpState.reset k))

theorem keyPush_inv {k : Nat} {S : OtpState} (b : Byte) (h : S.Inv k) : (keyPush k b S).Inv k where
  key := keyPush_keyInv b h.key
  flags := h.flags.of_eq (by simp) (by simp) (by simp) (keyPush_overflowFull b h.key.fill h.flags.overflowFull)
  code := h.code.of_eq (by simp) (by simp) (by simp)

/-- A failed call leaves no code. -/
theorem failCall_codeInv (k : Nat) (E : Failure) (S : OtpState) : CodeInv (failCall k E S) :=
  CodeInv.of_eq (.inl (clearCode_noCode S)) rfl rfl rfl

/-- A call that passed its validation leaves the code of its digits. -/
theorem succeedCall_codeInv (k : Nat) (c : DWord) {S : OtpState} (h1 : 1 ≤ S.digits.toNat) (h10 : S.digits.toNat ≤ 10) :
    CodeInv (succeedCall k c S) :=
  CodeInv.of_eq (.inr (storeCode_holdsCode S h1 h10 (hotpCode_lt_pow _ c _) (hotpCode_lt _ c _))) rfl rfl rfl

theorem doHotp_codeInv (k : Nat) (S : OtpState) : CodeInv (doHotp k S) := by
  rcases doHotp_cases k S with ⟨E, -, hd⟩ | ⟨hv, hd⟩ <;> rw [hd]
  · exact failCall_codeInv k E S
  · obtain ⟨h1, h10, -⟩ := (validateHotp_eq_none_iff S).mp hv
    exact succeedCall_codeInv k _ h1 h10

theorem doTotp_codeInv (k : Nat) (S : OtpState) : CodeInv (doTotp k S) := by
  rcases doTotp_cases k S with ⟨E, -, hd⟩ | ⟨hv, hd⟩ <;> rw [hd]
  · exact failCall_codeInv k E S
  · obtain ⟨h1, h10, -⟩ := (validateTotp_eq_none_iff S).mp hv
    exact succeedCall_codeInv k _ h1 h10

theorem doClear_codeInv (k : Nat) (S : OtpState) : CodeInv (doClear k S) :=
  CodeInv.of_eq (.inl (clearCode_noCode S)) rfl rfl rfl

/-- Every command keeps the invariants; HOTP, TOTP and CLEAR establish them. -/
theorem runCmd_inv (c : Cmd) {s : State} (h : s.Inv) : (runCmd c s).Inv := by
  have hout := runCmd_outcomeSet c s
  rw [State.Inv, runCmd_keyMax]
  cases c with
  | hotp => exact (doHotp_noKey _ _).inv hout (doHotp_codeInv _ _)
  | totp => exact (doTotp_noKey _ _).inv hout (doTotp_codeInv _ _)
  | ldtime => exact OtpState.Inv.of_outcomeSet h hout rfl
  | clear => exact (doClear_noKey _ _).inv hout (doClear_codeInv _ _)
  | illegal => exact OtpState.Inv.of_outcomeSet h hout rfl

/-- Every instruction keeps the invariants. -/
theorem exec_inv {i : Instr} {s t : State} (hs : s.Inv) (he : exec i s = .next t) : t.Inv := by
  rcases exec_cases i s with ⟨-, v, h⟩ | ⟨-, h⟩ | ⟨v, -, h⟩ | ⟨v, -, h⟩ | ⟨v, -, h⟩ | ⟨v, -, h⟩ | ⟨v, -, h⟩ | ⟨v, -, h⟩ |
    ⟨v, -, h⟩ | ⟨c, -, h⟩ <;> obtain rfl := Host.Outcome.next.inj (h.symm.trans he)
  iterate 8 exact OtpState.Inv.withOperands hs _ _ _ _
  · exact keyPush_inv _ hs
  · exact runCmd_inv c hs

/-- Every step keeps the invariants. -/
theorem step_inv {s t : State} (hs : s.Inv) (h : step s = .next t) : t.Inv := by
  rcases step_cases h with rfl | ⟨rest, rfl⟩ | ⟨i, rest, he⟩
  · exact hs
  · exact reset_inv _
  · exact exec_inv (s := { s with inputs := rest }) hs he

/-! ## STATUS (R33) -/

/-- A concatenation as a sum. -/
theorem toNat_append_eq_add {m n : Nat} (x : BitVec m) (y : BitVec n) : (x ++ y).toNat = 2 ^ n * x.toNat + y.toNat := by
  rw [BitVec.toNat_append, Nat.mul_comm, ← Nat.shiftLeft_eq, Nat.shiftLeft_add_eq_or_of_lt y.isLt]

/-- The sum STATUS reads as. -/
theorem statusWord_toNat (S : OtpState) :
    (statusWord S).toNat = S.ok.toNat + 2 * S.err.toNat + 16 * S.errCode.toNat + 256 * S.keyOvf.toNat := by
  rw [statusWord, BitVec.toNat_setWidth_of_le (by decide)]
  simp only [toNat_append_eq_add, BitVec.toNat_ofBool, BitVec.toNat_ofNat]
  omega

section statusWord
variable {S : OtpState}

/-- A bit of STATUS is the flag that the sum has there. -/
theorem statusWord_getLsbD_eq {p : Nat} {b : Bool}
    (h : (S.ok.toNat + 2 * S.err.toNat + 16 * S.errCode.toNat + 256 * S.keyOvf.toNat) / 2 ^ p % 2 = b.toNat) :
    (statusWord S).getLsbD p = b := by
  rw [← BitVec.testBit_toNat, statusWord_toNat, Nat.testBit_eq_decide_div_mod_eq, h]
  cases b <;> rfl

/-- A field of STATUS is the number that the sum has there. -/
theorem statusWord_extract_eq {p n : Nat} {x : BitVec n}
    (h : (S.ok.toNat + 2 * S.err.toNat + 16 * S.errCode.toNat + 256 * S.keyOvf.toNat) / 2 ^ p % 2 ^ n = x.toNat) :
    (statusWord S).extractLsb' p n = x := by
  apply BitVec.eq_of_toNat_eq
  rw [BitVec.extractLsb'_toNat, statusWord_toNat, Nat.shiftRight_eq_div_pow, h]

end statusWord

/-- The fields of STATUS at their bits, and zeros elsewhere. -/
theorem statusWord_fields (S : OtpState) :
    (statusWord S).getLsbD 0 = S.ok ∧ (statusWord S).getLsbD 1 = S.err ∧ (statusWord S).extractLsb' 2 2 = 0#2 ∧
    (statusWord S).extractLsb' 4 4 = S.errCode ∧ (statusWord S).getLsbD 8 = S.keyOvf ∧
    (statusWord S).extractLsb' 9 23 = 0#23 := by
  have hok := S.ok.toNat_le
  have herr := S.err.toNat_le
  have hcode := S.errCode.isLt
  have hovf := S.keyOvf.toNat_le
  refine ⟨statusWord_getLsbD_eq ?_, statusWord_getLsbD_eq ?_, statusWord_extract_eq ?_, statusWord_extract_eq ?_,
    statusWord_getLsbD_eq ?_, statusWord_extract_eq ?_⟩
  all_goals bv_omega

/-! ## The obligations of spec/10_state.md -/

/-- Settles O33: the invariants hold after reset, and a step is idle, a reset or an instruction, each of which keeps them. -/
theorem everyStepKeepsTheInvariants : Obligations.EveryStepKeepsTheInvariants :=
  ⟨fun k => reset_inv k.bytes, fun _ _ => step_inv⟩

/-- Settles O26: an instruction that writes CMD runs its command, which sets the outcome; every other leaves it. -/
theorem onlyCommandsSetTheOutcome : Obligations.OnlyCommandsSetTheOutcome := by
  refine ⟨fun i s t he => ⟨fun hw => ?_, fun hc => ?_, fun hc => ?_, fun hc => ?_, fun hc => ?_, fun hw => ?_⟩,
    fun i s S' hw hS => ?_, fun s rest hin => ⟨_, step_of_reset hin, rfl, rfl, rfl⟩⟩
  · obtain ⟨c, hc⟩ := Option.ne_none_iff_exists'.mp hw
    rw [eq_runCmd_of_exec hc he]
    exact runCmd_outcomeSet c s
  · rw [eq_runCmd_of_exec hc he]
    exact doHotp_ok_iff _ _
  · rw [eq_runCmd_of_exec hc he]
    exact doTotp_ok_iff _ _
  · rcases hc with hc | hc <;> rw [eq_runCmd_of_exec hc he] <;> rfl
  · rw [eq_runCmd_of_exec hc he]
    rfl
  · exact exec_outcome_of_commandOf_none (not_not.mp hw) he
  · obtain ⟨c, hc⟩ := Option.ne_none_iff_exists'.mp hw
    rw [exec_of_commandOf hc, exec_of_commandOf hc, runCmd_sameButOutcome c hS]

/-- Settles O30: the two calls, CLEAR and reset leave no key, and the two other commands do not touch it. -/
theorem everyCallDropsTheKey : Obligations.EveryCallDropsTheKey := by
  refine ⟨fun i s t he => ⟨fun hc => ?_, fun hc => ?_⟩, fun s rest hin => ?_⟩
  · have hnone : NoKey s.keyMax.bytes t.otp := by
      rcases hc with hc | hc | hc <;> rw [eq_runCmd_of_exec hc he]
      · exact doHotp_noKey _ _
      · exact doTotp_noKey _ _
      · exact doClear_noKey _ _
    exact ⟨hnone.zeros, hnone.len, hnone.ovf, hnone.keyOperand_eq_nil⟩
  · rcases hc with hc | hc <;> rw [eq_runCmd_of_exec hc he] <;> exact ⟨rfl, rfl, rfl⟩
  · have hnone := reset_noKey s.keyMax.bytes
    exact ⟨_, step_of_reset hin, hnone.zeros, hnone.len, hnone.ovf, hnone.keyOperand_eq_nil⟩

/-- Settles O12: the word read is `statusWord`, whose fields and sum are those of R33. -/
theorem statusReadsItsFields : Obligations.StatusReadsItsFields := by
  intro s v
  obtain ⟨hok, herr, hlow, hcode, hovf, hhigh⟩ := statusWord_fields s.otp
  exact ⟨⟨statusWord s.otp, rfl, hok, herr, hlow, hcode, hovf, hhigh, statusWord_toNat s.otp⟩, rfl⟩

end Sys2Proof.Machine

/-! PROOFS. Transactions (spec/20_memory.md): every instruction completes, a read with a word and a write with nothing. -/

namespace Sys2Proof.Machine

/-! ## Every instruction completes -/

@[simp] theorem runCmd_inputs (c : Cmd) (s : State) : (runCmd c s).inputs = s.inputs := by cases c <;> rfl

@[simp] theorem runCmd_response (c : Cmd) (s : State) : (runCmd c s).response = none := by cases c <;> rfl

/-- Every instruction has a next state, with the parameter and the waiting events of the state before. -/
theorem exec_completes (i : Instr) (s : State) : ∃ t, exec i s = .next t ∧ t.keyMax = s.keyMax ∧ t.inputs = s.inputs := by
  rcases exec_cases i s with ⟨-, v, h⟩ | ⟨-, h⟩ | ⟨v, -, h⟩ | ⟨v, -, h⟩ | ⟨v, -, h⟩ | ⟨v, -, h⟩ | ⟨v, -, h⟩ | ⟨v, -, h⟩ |
    ⟨v, -, h⟩ | ⟨c, -, h⟩
  iterate 9 exact ⟨_, h, rfl, rfl⟩
  · exact ⟨_, h, runCmd_keyMax c s, runCmd_inputs c s⟩

/-! ## The row of a transaction word (R92) -/

theorem decodeWord_transaction_of_read {x : BitVec 39} (h : tWe x = false) :
    decodeWord (.transaction x) = readRow (tIdx x) := by
  simp [decodeWord, decodeTransaction, h]

theorem decodeWord_transaction_of_write {x : BitVec 39} (h : tWe x = true) :
    decodeWord (.transaction x) = writeRow (tIdx x) (tWdata x) := by
  simp [decodeWord, decodeTransaction, h]

/-- Every index has a row among the 64 reads, so the default of the look-up is never taken. -/
theorem readRow_mem_readRows (idx : Idx) : readRow idx ∈ readRows := by
  have hlt : idx.toNat < readRows.length := idx.isLt
  rw [readRow, List.getD_eq_getElem _ _ hlt]
  exact List.getElem_mem hlt

/-- Every index has a row among the 64 writes, so the default of the look-up is never taken. -/
theorem exists_mem_writeRows (idx : Idx) : ∃ row ∈ writeRows, ∀ v, writeRow idx v = row v := by
  have hlt : idx.toNat < writeRows.length := idx.isLt
  exact ⟨writeRows[idx.toNat], List.getElem_mem hlt, fun v => by rw [writeRow, List.getD_eq_getElem _ _ hlt]⟩

/-! ## How a transaction ends (R62) -/

/-- Each of the 64 reads returns a word and changes nothing else. -/
theorem exec_of_mem_readRows {i : Instr} (hi : i ∈ readRows) (s : State) : ∃ v, exec i s = .next (s.completeRead v) := by
  have hall : readRows.Forall fun i => ∃ v, exec i s = .next (s.completeRead v) := by
    iterate 63 refine ⟨⟨_, rfl⟩, ?_⟩
    exact ⟨_, rfl⟩
  exact List.forall_iff_forall_mem.mp hall i hi

/-- Each of the 64 writes completes and returns nothing: the first row runs a command, the others complete on the record. -/
theorem exec_of_mem_writeRows {row : Word → Instr} (hrow : row ∈ writeRows) (v : Word) (s : State) :
    ∃ t, exec (row v) s = .next t ∧ t.response = none := by
  have hall : writeRows.Forall fun row => ∃ t, exec (row v) s = .next t ∧ t.response = none := by
    refine ⟨⟨_, rfl, runCmd_response _ s⟩, ?_⟩
    iterate 62 refine ⟨⟨_, rfl, rfl⟩, ?_⟩
    exact ⟨_, rfl, rfl⟩
  exact List.forall_iff_forall_mem.mp hall row hrow

/-! ## The obligation of spec/20_memory.md -/

/-- Settles O9: every instruction completes, and each index of a read or a write has its row among the 64 of its direction. -/
theorem everyTransactionCompletes : Obligations.EveryTransactionCompletes := by
  refine ⟨exec_completes, fun x s hx => ?_, fun x s hx => ?_⟩
  · rw [decodeWord_transaction_of_read hx]
    exact exec_of_mem_readRows (readRow_mem_readRows _) s
  · obtain ⟨row, hmem, hrow⟩ := exists_mem_writeRows (tIdx x)
    rw [decodeWord_transaction_of_write hx, hrow]
    exact exec_of_mem_writeRows hmem _ s

end Sys2Proof.Machine

/-! PROOFS. Encoding (spec/30_encoding.md): which written words are commands. -/

namespace Sys2Proof.Machine

/-! ## The two fields of a command word (R93) -/

/-- A command word is its reserved bits above its opcode. -/
theorem cRsvd_append_cOpc (w : Word) : cRsvd w ++ cOpc w = w :=
  BitVec.extractLsb'_append_extractLsb' (w := 28) (len := 4)

/-- A command word with no reserved bit set is its opcode below 28 zeros. -/
theorem eq_append_cOpc_of_cRsvd_eq_zero {w : Word} (h : cRsvd w = 0#28) : w = 0#28 ++ cOpc w := by
  simpa only [h] using (cRsvd_append_cOpc w).symm

/-! ## decode_cmd (R95) -/

/-- The first branch of R95: a reserved bit makes the word illegal, whatever its opcode. -/
theorem decodeCmd_of_cRsvd_ne_zero {w : Word} (h : cRsvd w ≠ 0#28) : decodeCmd w = .illegal := by
  simp [decodeCmd, h]

/-- Settles O4: a word with no reserved bit set is one of the 16 opcodes; any other is illegal and none of the four. -/
theorem exactlyFourWordsAreCommands : Obligations.ExactlyFourWordsAreCommands := by
  intro w
  by_cases hrsvd : cRsvd w = 0#28
  · rw [eq_append_cOpc_of_cRsvd_eq_zero hrsvd]
    generalize cOpc w = opc
    revert opc
    decide
  · have hne {v : Word} (hv : cRsvd v = 0#28) : w ≠ v := fun hw => hrsvd (hw ▸ hv)
    rw [decodeCmd_of_cRsvd_ne_zero hrsvd, if_neg (hne rfl), if_neg (hne rfl), if_neg (hne rfl), if_neg (hne rfl)]

end Sys2Proof.Machine

/-! PROOFS. Host access (spec/40_host_access.md): the two tables of R120 and R121, the key push, WR CMD and the inert slots. -/

namespace Sys2Proof.Machine

/-! ## Reserved slots and read-only registers (R132) -/

/-- Each of the 42 reads of a reserved slot returns 0. -/
theorem exec_of_mem_reservedReads {i : Instr} (hi : i ∈ Spec.reservedReads) (s : State) :
    exec i s = .next (s.completeRead 0#32) := by
  fin_cases hi <;> rfl

/-- Each of the 56 writes to a reserved slot or a read-only register leaves the record. -/
theorem exec_of_mem_inertWrites {i : Instr} {v : Word} (hi : i ∈ Spec.inertWrites v) (s : State) :
    exec i s = .next (s.completeWrite s.otp) := by
  fin_cases hi <;> rfl

/-- Settles O13: the rows of the two lists, one by one. -/
theorem reservedAndReadOnlySlotsAreInert : Obligations.ReservedAndReadOnlySlotsAreInert :=
  ⟨fun s _ hi => exec_of_mem_reservedReads hi s, fun s _ _ hi => exec_of_mem_inertWrites hi s⟩

/-! ## WR CMD (R126) -/

theorem exec_wrCmd (w : Word) (s : State) : exec (.wrCmd w) s = .next (runCmd (decodeCmd w) s) := rfl

/-- A write to CMD runs as every other row of the command its word encodes. -/
theorem exec_wrCmd_eq_exec {i : Instr} {c : Cmd} {w : Word} (hi : commandOf i = some c) (hw : decodeCmd w = c)
    (s : State) : exec (.wrCmd w) s = exec i s := by
  rw [exec_of_commandOf hi, exec_wrCmd, hw]

/-- A write of an illegal word to CMD fails with ILLEGAL_COMMAND. -/
theorem exec_wrCmd_of_illegal {w : Word} (h : decodeCmd w = .illegal) (s : State) :
    exec (.wrCmd w) s = .next (Spec.written s (Spec.failed 3#4 s.otp)) := by
  rw [exec_wrCmd, h]
  rfl

/-- Settles O25: WR CMD is `runCmd`, which completes, sets the outcome whatever it was, and is the row of each of the commands. -/
theorem writeToCmdRunsItsCommand : Obligations.WriteToCmdRunsItsCommand := by
  intro w s
  refine ⟨⟨_, exec_wrCmd w s, runCmd_response _ s, ?_⟩, fun S' hS => ?_, fun h => ?_, fun h => ?_, fun h => ?_, fun h => ?_,
    fun h => exec_wrCmd_of_illegal h s, rfl⟩
  · simpa [OutcomeSet] using runCmd_outcomeSet (decodeCmd w) s
  · rw [exec_wrCmd, exec_wrCmd, runCmd_sameButOutcome _ hS]
  all_goals exact exec_wrCmd_eq_exec rfl h s

/-! ## The key push (R127) -/

theorem exec_wrKeyPush (v : Word) (s : State) :
    exec (.wrKeyPush v) s = .next (s.completeWrite (keyPush s.keyMax.bytes (keyByte v) s.otp)) := rfl

/-- Settles O17: the two branches of `keyPush`. -/
theorem keyPushAppendsOrSetsOverflow : Obligations.KeyPushAppendsOrSetsOverflow := by
  intro s v
  refine ⟨fun hroom => ?_, fun hfull => ?_, rfl⟩
  · rw [exec_wrKeyPush, keyPush_of_room _ hroom]
    rfl
  · rw [exec_wrKeyPush, keyPush_of_full _ hfull]
    rfl

/-! ## The two tables (R120, R121) -/

/-- The word of STATUS as the sum that R120's table has. -/
theorem statusWord_eq_ofNat (S : OtpState) :
    statusWord S =
      BitVec.ofNat 32 (S.ok.toNat + 2 * S.err.toNat + 16 * S.errCode.toNat + 256 * S.keyOvf.toNat) := by
  rw [← statusWord_toNat, BitVec.ofNat_toNat, BitVec.setWidth_eq]

/-- The row of each index reads what the table says: STATUS is the sum of its fields, every other row is its register or 0. -/
theorem exec_readRow (idx : Idx) (s : State) :
    exec (readRow idx) s = .next (Spec.answered s (Spec.regRead idx s.otp)) := by
  obtain ⟨n, hn⟩ := idx
  interval_cases n
  · rfl
  · exact congrArg (fun v => Host.Outcome.next (s.completeRead v)) (statusWord_eq_ofNat s.otp)
  all_goals rfl

/-- The row of each index but CMD's changes the record as the table says. -/
theorem exec_writeRow {idx : Idx} (h : idx ≠ 0#6) (v : Word) (s : State) :
    exec (writeRow idx v) s = .next (Spec.written s (Spec.regWrite s.keyMax.bytes idx v s.otp)) := by
  obtain ⟨n, hn⟩ := idx
  interval_cases n
  · exact absurd rfl h
  all_goals rfl

/-- Settles O14: a read selects its row by the index alone. -/
theorem readTransactionsFollowTheReadTable : Obligations.ReadTransactionsFollowTheReadTable := by
  intro t s ht
  rw [decodeWord_transaction_of_read ht]
  exact exec_readRow (tIdx t) s

/-- Settles O15: a write selects its row by the index, and the row of index 0 runs the command of its data. -/
theorem writeTransactionsFollowTheWriteTable : Obligations.WriteTransactionsFollowTheWriteTable := by
  intro t s ht
  rw [decodeWord_transaction_of_write ht]
  refine ⟨fun hidx => exec_writeRow hidx _ s, fun hidx => ?_⟩
  rw [hidx]
  cases hc : decodeCmd (tWdata t) with
  | hotp | totp | ldtime | clear => exact exec_wrCmd_eq_exec rfl hc s
  | illegal => exact exec_wrCmd_of_illegal hc s

end Sys2Proof.Machine

/-! PROOFS. The byte encoder, SHA-1 and HMAC-SHA1 (spec/41_encoder_hmac_sha1.md): byte order, padding, the message schedule, the loop of
eighty turns and the key block. -/

namespace Sys2Proof.Machine

/-! ## Big-endian bytes (R10) -/

/-- The bytes of a word are its bit fields of eight, the most significant first. -/
theorem beBytes_toNat (n : Nat) {w : Nat} (x : BitVec w) :
    beBytes n x.toNat = (List.range n).map fun i => x.extractLsb' (8 * (n - 1 - i)) 8 := rfl

/-- One byte more is the least significant one, put last. -/
theorem beBytes_succ (n v : Nat) : beBytes (n + 1) v = beBytes n (v / 256) ++ [BitVec.ofNat 8 v] := by
  have hshift : ∀ i ∈ List.range n, v >>> (8 * (n + 1 - 1 - i)) = (v / 256) >>> (8 * (n - 1 - i)) := fun i hi => by
    have hexp : 8 * (n + 1 - 1 - i) = 8 + 8 * (n - 1 - i) := by
      have := List.mem_range.mp hi
      omega
    rw [hexp, Nat.shiftRight_add, Nat.shiftRight_eq_div_pow v 8]
  rw [beBytes, List.range_succ, List.map_append, List.map_congr_left fun i hi => congrArg _ (hshift i hi)]
  simp [beBytes]

theorem beUint_append_singleton (s : List Byte) (b : Byte) : beUint (s ++ [b]) = beUint s * 256 + b.toNat := by
  simp [beUint]

/-- Reading `n` big-endian bytes gives the number modulo `256 ^ n`. -/
theorem beUint_beBytes (n v : Nat) : beUint (beBytes n v) = v % 256 ^ n := by
  induction n generalizing v with
  | zero => simp [beBytes, beUint, Nat.mod_one]
  | succ n ih =>
    rw [beBytes_succ, beUint_append_singleton, ih, pow_succ', Nat.mod_mul, BitVec.toNat_ofNat, Nat.mul_comm, Nat.add_comm]

/-- Four bytes read big-endian are their concatenation. -/
theorem ofNat_beUint_four (a b c d : Byte) : BitVec.ofNat 32 (beUint [a, b, c, d]) = a ++ b ++ c ++ d := by
  apply BitVec.eq_of_toNat_eq
  simp only [toNat_append_eq_add, BitVec.toNat_ofNat, beUint, List.foldl_cons, List.foldl_nil]
  omega

/-- Settles O48: the bytes are the counter's bit fields by definition, and all 64 bits are below `256 ^ 8`. -/
theorem counterIsEncodedBigEndian : Obligations.CounterIsEncodedBigEndian := by
  intro c
  refine ⟨beBytes_toNat 8 c, ?_⟩
  rw [encodeCounter, beUint_beBytes]
  exact Nat.mod_eq_of_lt c.isLt

/-! ## Padding (R143) -/

theorem add_padZeros_mod (n : Nat) : (n + 1 + padZeros n) % 64 = 56 := by
  simp only [padZeros]
  omega

theorem add_mod_ne_of_lt_padZeros {n j : Nat} (h : j < padZeros n) : (n + 1 + j) % 64 ≠ 56 := by
  simp only [padZeros] at h
  omega

/-- The padded message is whole blocks. -/
theorem pad_length (m : List Byte) : (pad m).length = 64 * blockCount m.length := by
  simp only [pad, padZeros, blockCount, List.length_append, List.length_singleton, List.length_replicate, beBytes_length]
  omega

theorem pad_length_div (m : List Byte) : (pad m).length / 64 = blockCount m.length := by
  rw [pad_length, Nat.mul_div_cancel_left _ (by norm_num)]

/-- Settles O49: the model's count of zeros is the least one. From 2^61 bytes on the length field is the one that D30 allows (log 9). -/
theorem paddingFillsWholeBlocks : Obligations.PaddingFillsWholeBlocks := fun m =>
  ⟨padZeros m.length, rfl, add_padZeros_mod _, fun _ => add_mod_ne_of_lt_padZeros, pad_length m, rfl⟩

/-! ## Rotation, blocks and words (R11, R144) -/

theorem rotl32_eq_rotateLeft (x : Word) {n : Nat} (h : n < 32) : rotl32 x n = x.rotateLeft n := by
  rw [BitVec.rotateLeft_def, Nat.mod_eq_of_lt h, rotl32]

theorem slice_length {s : List Byte} {i j : Nat} (h : j ≤ s.length) : (slice s i j).length = j - i := by
  simp only [slice, List.length_take, List.length_drop]
  omega

theorem slice_getD {i j k : Nat} (s : List Byte) (h : k < j - i) : (slice s i j).getD k 0#8 = s.getD (i + k) 0#8 := by
  simp [slice, List.getD_eq_getElem?_getD, List.getElem?_take_of_lt h, List.getElem?_drop]

/-- A slice of four bytes, byte by byte. -/
theorem slice_four {s : List Byte} {i : Nat} (h : i + 4 ≤ s.length) :
    slice s i (i + 4) = [s.getD i 0#8, s.getD (i + 1) 0#8, s.getD (i + 2) 0#8, s.getD (i + 3) 0#8] := by
  have hlen : (slice s i (i + 4)).length = 4 := by rw [slice_length h]; omega
  obtain ⟨a, b, c, d, habcd⟩ := List.length_eq_four.mp hlen
  have hget (k : Nat) (hk : k < 4) : [a, b, c, d].getD k 0#8 = s.getD (i + k) 0#8 := by
    rw [← habcd, slice_getD s (by omega)]
  have hfirst : a = s.getD i 0#8 := hget 0 (by decide)
  rw [habcd, ← hfirst, ← hget 1 (by decide), ← hget 2 (by decide), ← hget 3 (by decide)]
  rfl

@[simp] theorem blockWords_length (b : List Byte) : (blockWords b).length = 16 := by simp [blockWords]

/-- Word `t` of a block is its bytes `4 t` to `4 t + 3`. -/
theorem blockWords_getD {b : List Byte} {t : Nat} (hb : b.length = 64) (ht : t < 16) : (blockWords b).getD t 0#32 =
    b.getD (4 * t) 0#8 ++ b.getD (4 * t + 1) 0#8 ++ b.getD (4 * t + 2) 0#8 ++ b.getD (4 * t + 3) 0#8 := by
  rw [← ofNat_beUint_four, ← slice_four (by omega), List.getD_eq_getElem _ _ (by simpa using ht)]
  simp [blockWords]

/-! ## The message schedule (R146) -/

/-- From the seventeenth on, each word comes from the earlier ones by the recurrence of R146. -/
def FollowsRecurrence (W : List Word) : Prop :=
  ∀ t, 16 ≤ t → t < W.length → W.getD t 0#32 =
    (W.getD (t - 3) 0#32 ^^^ W.getD (t - 8) 0#32 ^^^ W.getD (t - 14) 0#32 ^^^ W.getD (t - 16) 0#32).rotateLeft 1

/-- The next word reads the words 3, 8, 14 and 16 places before its own. -/
theorem nextScheduleWord_reverse {W : List Word} (h : 16 ≤ W.length) : nextScheduleWord W.reverse =
    (W.getD (W.length - 3) 0#32 ^^^ W.getD (W.length - 8) 0#32 ^^^ W.getD (W.length - 14) 0#32 ^^^
      W.getD (W.length - 16) 0#32).rotateLeft 1 := by
  have hrev (i : Nat) (hi : i < 16) : W.reverse.getD i 0#32 = W.getD (W.length - (i + 1)) 0#32 := by
    rw [List.getD_reverse i (by omega)]
    congr 1
    omega
  rw [nextScheduleWord, rotl32_eq_rotateLeft _ (by decide), hrev 2 (by decide), hrev 7 (by decide), hrev 13 (by decide),
    hrev 15 (by decide)]

/-- Appending the next word keeps the recurrence. -/
theorem FollowsRecurrence.append_next {W : List Word} (h : FollowsRecurrence W) (hlen : 16 ≤ W.length) :
    FollowsRecurrence (W ++ [nextScheduleWord W.reverse]) := by
  intro t h16 ht
  rw [List.length_append, List.length_singleton] at ht
  have hold (i : Nat) (hi : i < W.length) : (W ++ [nextScheduleWord W.reverse]).getD i 0#32 = W.getD i 0#32 :=
    List.getD_append _ _ _ _ hi
  rw [hold (t - 3) (by omega), hold (t - 8) (by omega), hold (t - 14) (by omega), hold (t - 16) (by omega)]
  rcases Nat.lt_or_ge t W.length with hlt | hge
  · rw [hold t hlt, h t h16 hlt]
  · obtain rfl : t = W.length := by omega
    rw [List.getD_append_right _ _ _ _ le_rfl, Nat.sub_self, List.getD_cons_zero, nextScheduleWord_reverse hlen]

theorem extendSchedule_length (n : Nat) (latest : List Word) : (extendSchedule n latest).length = latest.length + n := by
  induction n generalizing latest with
  | zero => rfl
  | succ n ih => rw [extendSchedule, ih, List.length_cons, Nat.add_right_comm, Nat.add_assoc]

/-- The earlier words stay, below the new ones. -/
theorem suffix_extendSchedule (n : Nat) (latest : List Word) : latest <:+ extendSchedule n latest := by
  induction n generalizing latest with
  | zero => exact List.suffix_rfl
  | succ n ih => exact (List.suffix_cons _ _).trans (ih _)

theorem extendSchedule_followsRecurrence (n : Nat) {latest : List Word} (hlen : 16 ≤ latest.length)
    (h : FollowsRecurrence latest.reverse) : FollowsRecurrence (extendSchedule n latest).reverse := by
  induction n generalizing latest with
  | zero => exact h
  | succ n ih =>
    refine ih (Nat.le_succ_of_le hlen) ?_
    simpa using h.append_next (by simpa using hlen)

@[simp] theorem schedule_length (b : List Byte) : (schedule b).length = 80 := by
  simp [schedule, extendSchedule_length]

/-- The schedule begins with the words of the block. -/
theorem exists_schedule_eq_blockWords_append (b : List Byte) : ∃ rest, blockWords b ++ rest = schedule b := by
  change blockWords b <+: schedule b
  rw [schedule, ← List.reverse_suffix, List.reverse_reverse]
  exact suffix_extendSchedule 64 _

theorem schedule_getD_of_lt (b : List Byte) {t : Nat} (ht : t < 16) : (schedule b).getD t 0#32 = (blockWords b).getD t 0#32 := by
  obtain ⟨rest, hrest⟩ := exists_schedule_eq_blockWords_append b
  rw [← hrest, List.getD_append _ _ _ _ (by simpa using ht)]

/-- The sixteen words of the block meet the recurrence, since it does not speak of them yet. -/
theorem schedule_followsRecurrence (b : List Byte) : FollowsRecurrence (schedule b) := by
  refine extendSchedule_followsRecurrence 64 (by simp) fun t h16 ht => ?_
  simp only [List.length_reverse, blockWords_length] at ht
  omega

/-- Settles O50: every word that is put to the schedule keeps its recurrence, and the block's words stay in front. -/
theorem scheduleFollowsItsRecurrence : Obligations.ScheduleFollowsItsRecurrence := by
  refine ⟨fun x n _ hn => rotl32_eq_rotateLeft x hn, fun p i hi => ⟨?_, fun j hj => ?_⟩, fun b hb t ht => ?_, fun b => ⟨?_, ?_⟩⟩
  · rw [block, slice_length hi, Nat.add_sub_cancel_left]
  · exact slice_getD p (by omega)
  · rw [schedule_getD_of_lt b ht, blockWords_getD hb ht]
  · exact schedule_length b
  · simpa [FollowsRecurrence] using schedule_followsRecurrence b

/-! ## The loop of eighty turns (R147, R148) -/

theorem roundF_eq_choose (t : Nat) (b c d : Word) : roundF t b c d = Spec.choose t b c d := by
  have hfirst : t < 20 ↔ t ≤ 19 := by omega
  have hthird : 40 ≤ t ∧ t ≤ 59 ↔ ¬ t < 40 ∧ t < 60 := by omega
  simp only [roundF, Spec.choose, hfirst, hthird, ite_and, ite_not]

theorem roundK_eq_constant (t : Nat) : roundK t = Spec.constant t := by
  have hfirst : t < 20 ↔ t ≤ 19 := by omega
  have hsecond : t < 40 ↔ t ≤ 39 := by omega
  have hthird : t < 60 ↔ t ≤ 59 := by omega
  simp only [roundK, Spec.constant, hfirst, hsecond, hthird]

/-- The working variables of R148 as the loop of the pseudocode holds them. -/
def HashValue.variables (v : HashValue) : Word × Word × Word × Word × Word := (v.a, v.b, v.c, v.d, v.e)

/-- A round is a turn of the loop. -/
theorem turn_variables (W : List Word) (v : HashValue) (t : Nat) :
    Spec.turn W v.variables t = (round t (W.getD t 0#32) v).variables := by
  simp only [Spec.turn, HashValue.variables, round, roundF_eq_choose, roundK_eq_constant,
    rotl32_eq_rotateLeft _ (show 5 < 32 by decide), rotl32_eq_rotateLeft _ (show 30 < 32 by decide)]

/-- The last word's round comes last. -/
theorem rounds_append_singleton (t : Nat) (ws : List Word) (w : Word) (v : HashValue) :
    rounds t (ws ++ [w]) v = round (t + ws.length) w (rounds t ws v) := by
  induction ws generalizing t v with
  | nil => rfl
  | cons x ws ih => rw [List.cons_append, rounds, ih, rounds, List.length_cons, Nat.add_right_comm, Nat.add_assoc]

/-- The rounds of the first `n` schedule words are `n` turns of the loop. -/
theorem foldl_turn_range (W : List Word) (v : HashValue) {n : Nat} (hn : n ≤ W.length) :
    (List.range n).foldl (Spec.turn W) v.variables = (rounds 0 (W.take n) v).variables := by
  induction n with
  | zero => rfl
  | succ n ih =>
    have hlen : (W.take n).length = n := List.length_take_of_le (Nat.le_of_succ_le hn)
    rw [List.range_succ, List.foldl_append, ih (Nat.le_of_succ_le hn), List.take_succ_eq_append_getElem hn,
      rounds_append_singleton, hlen, Nat.zero_add, ← List.getD_eq_getElem W 0#32 hn]
    exact turn_variables W _ n

/-- The model's compression is the loop of R148 and its five additions. -/
theorem compress_eq_compressed (h : HashValue) {W : List Word} (hW : W.length = 80) : compress h W = Spec.compressed h W := by
  have hloop := foldl_turn_range W h hW.ge
  rw [← hW, List.take_length] at hloop
  rw [Spec.compressed, ← hW, show (h.a, h.b, h.c, h.d, h.e) = h.variables from rfl, hloop]
  rfl

/-! ## The blocks in order, and the digest (R148, R149) -/

theorem hashBlocks_succ (p : List Byte) (n : Nat) :
    hashBlocks p (n + 1) = compress (hashBlocks p n) (schedule (block p n)) := by
  simp [hashBlocks, List.range_succ]

theorem digestBytes_eq_digest (h : HashValue) : digestBytes h = Spec.digest h := by
  simp only [digestBytes, beBytes_toNat]
  rfl

/-- Settles O51: a round is a turn of the loop, the loop of the blocks ends with the last block, and the padded message is whole
blocks. -/
theorem compressionIsTheLoopOfEightyTurns : Obligations.CompressionIsTheLoopOfEightyTurns := by
  refine ⟨fun h W hW => compress_eq_compressed h hW, fun p => rfl, fun p n => ?_, fun m => ?_⟩
  · rw [hashBlocks_succ, compress_eq_compressed _ (schedule_length _)]
  · rw [sha1, digestBytes_eq_digest, pad_length_div]

/-! ## The MAC (R151, R152) -/

@[simp] theorem sha1_length (m : List Byte) : (sha1 m).length = 20 := digestBytes_length _

theorem shortKey_of_long {k : List Byte} (h : 64 < k.length) : shortKey k = sha1 k := if_pos h

theorem shortKey_of_short {k : List Byte} (h : k.length ≤ 64) : shortKey k = k := if_neg (Nat.not_lt.mpr h)

/-- The shortened key fits in one block. -/
theorem shortKey_length_le (k : List Byte) : (shortKey k).length ≤ 64 := by
  rcases Nat.lt_or_ge 64 k.length with h | h
  · rw [shortKey_of_long h, sha1_length]
    decide
  · rwa [shortKey_of_short h]

@[simp] theorem blockKey_length (k : List Byte) : (blockKey k).length = 64 := by
  rw [blockKey, List.length_append, List.length_replicate, Nat.add_sub_of_le (shortKey_length_le k)]

/-- Settles O53: `k'` is the model's shortened key and `K0` its key block. -/
theorem macIsTheNestedHashOfTheKeyBlock : Obligations.MacIsTheNestedHashOfTheKeyBlock := fun k _ =>
  ⟨shortKey k, blockKey k, shortKey_of_long, shortKey_of_short, rfl, blockKey_length k, rfl⟩

end Sys2Proof.Machine

/-! PROOFS. HOTP (spec/42_hotp.md): dynamic truncation, the decimal formatter and its inverse, and the HOTP command. -/

namespace Sys2Proof.Machine

/-! ## The offset and the value (R170, R171) -/

/-- The low four bits of the last byte are that byte modulo 16. -/
theorem dtOffset_eq_mod (mac : List Byte) : dtOffset mac = (byteAt mac 19).toNat % 16 := by
  rw [dtOffset, BitVec.toNat_and]
  exact Nat.and_two_pow_sub_one_eq_mod _ 4

theorem dtOffset_lt (mac : List Byte) : dtOffset mac < 16 := by
  rw [dtOffset_eq_mod]
  exact Nat.mod_lt _ (by decide)

theorem beUint_four (a b c d : Byte) :
    beUint [a, b, c, d] = a.toNat * 2 ^ 24 + b.toNat * 2 ^ 16 + c.toNat * 2 ^ 8 + d.toNat := by
  simp only [beUint, List.foldl_cons, List.foldl_nil]
  omega

/-- The four bytes at the offset `o`, big-endian, without the top bit. -/
theorem dtValue_eq_mod {mac : List Byte} {o : Nat} (ho : dtOffset mac = o) : dtValue mac =
    ((byteAt mac o).toNat * 2 ^ 24 + (byteAt mac (o + 1)).toNat * 2 ^ 16 + (byteAt mac (o + 2)).toNat * 2 ^ 8 +
      (byteAt mac (o + 3)).toNat) % 2 ^ 31 := by
  rw [dtValue, ho, beUint_four]
  exact Nat.and_two_pow_sub_one_eq_mod _ 31

/-- Settles O56: masking the low bits is the remainder by a power of two, for the offset and for the value. -/
theorem truncationTakesFourBytesAtTheOffset : Obligations.TruncationTakesFourBytesAtTheOffset :=
  fun mac _ => ⟨dtOffset_eq_mod mac, dtValue_eq_mod rfl⟩

/-! ## What the truncation reads (R172) -/

/-- The value depends on the offset and on the nineteen bytes before the last one. -/
theorem dtValue_congr {mac mac' : List Byte} (ho : dtOffset mac = dtOffset mac')
    (hbytes : ∀ i < 19, byteAt mac i = byteAt mac' i) : dtValue mac = dtValue mac' := by
  have hlt := dtOffset_lt mac'
  rw [dtValue_eq_mod ho, dtValue_eq_mod rfl, hbytes _ (by omega), hbytes _ (by omega), hbytes _ (by omega), hbytes _ (by omega)]

theorem byteAt_append_of_lt {s : List Byte} {i : Nat} (h : i < s.length) (t : List Byte) : byteAt (s ++ t) i = byteAt s i :=
  List.getD_append _ _ _ _ h

/-- After nineteen bytes the offset is the low nibble of the next one. -/
theorem dtOffset_append_singleton {body : List Byte} (h : body.length = 19) (x : Byte) :
    dtOffset (body ++ [x]) = (x.extractLsb' 0 4).toNat := by
  have hlast : byteAt (body ++ [x]) 19 = x := by
    rw [byteAt, List.getD_append_right _ _ _ _ h.le, h]
    rfl
  rw [dtOffset_eq_mod, hlast, BitVec.extractLsb'_toNat]
  rfl

/-- Settles O57: the last byte gives its low nibble to the offset, and the slice ends before it. -/
theorem truncationIgnoresTheHighNibble : Obligations.TruncationIgnoresTheHighNibble := by
  intro body x y hbody hxy
  have hlt := dtOffset_lt (body ++ [x])
  refine ⟨by omega, dtValue_congr ?_ fun i hi => ?_⟩
  · rw [dtOffset_append_singleton hbody, dtOffset_append_singleton hbody, hxy]
  · rw [byteAt_append_of_lt (hbody ▸ hi), byteAt_append_of_lt (hbody ▸ hi)]

/-! ## Decimal characters (R13) -/

theorem chr_toNat {n : Nat} (h : n < 10) : (chr n).toNat = 0x30 + n := by
  rw [chr, BitVec.toNat_ofNat]
  omega

theorem chr_isDecimalChar {n : Nat} (h : n < 10) : Spec.IsDecimalChar (chr n) := by
  rw [Spec.IsDecimalChar, chr_toNat h]
  omega

/-- A decimal character is the character of the digit it denotes, one of the ten. -/
theorem exists_eq_chr_of_isDecimalChar {ch : Byte} (h : Spec.IsDecimalChar ch) : ∃ n < 10, ch = chr n := by
  obtain ⟨hlo, hhi⟩ := h
  refine ⟨ch.toNat - 0x30, by omega, BitVec.eq_of_toNat_eq ?_⟩
  rw [chr_toNat (by omega)]
  omega

/-! ## The formatter and the number a string denotes (R174) -/

/-- One digit more is the units digit, put last. -/
theorem formatCode_succ (code d : Nat) : formatCode code (d + 1) = formatCode (code / 10) d ++ [chr (code % 10)] := by
  have hdigit : ∀ i ∈ List.range d,
      chr (code / 10 ^ (d + 1 - 1 - i) % 10) = chr (code / 10 / 10 ^ (d - 1 - i) % 10) := fun i hi => by
    have hexp : d + 1 - 1 - i = d - 1 - i + 1 := by
      have := List.mem_range.mp hi
      omega
    rw [hexp, pow_succ', Nat.div_div_eq_div_mul]
  rw [formatCode, List.range_succ, List.map_append, List.map_congr_left hdigit]
  simp [formatCode]

theorem decimal_append_chr (str : List Byte) {n : Nat} (h : n < 10) :
    Spec.decimal (str ++ [chr n]) = 10 * Spec.decimal str + n := by
  simp [Spec.decimal, chr_toNat h]

theorem isDecimalChar_of_mem_formatCode {code d : Nat} {ch : Byte} (h : ch ∈ formatCode code d) : Spec.IsDecimalChar ch := by
  obtain ⟨i, -, rfl⟩ := List.mem_map.mp h
  exact chr_isDecimalChar (Nat.mod_lt _ (by decide))

/-- Reading `d` formatted characters gives the number modulo `10 ^ d`. -/
theorem decimal_formatCode (code d : Nat) : Spec.decimal (formatCode code d) = code % 10 ^ d := by
  induction d generalizing code with
  | zero => simp [formatCode, Spec.decimal, Nat.mod_one]
  | succ d ih =>
    rw [formatCode_succ, decimal_append_chr _ (Nat.mod_lt _ (by decide)), ih, pow_succ', Nat.mod_mul, Nat.add_comm]

/-- Settles O58: `reduce` is a remainder, and reading the characters back undoes the formatter. -/
theorem formattedCodeIsTheDecimalString : Obligations.FormattedCodeIsTheDecimalString := by
  refine ⟨fun value d hvalue _ _ => ⟨rfl, Nat.mod_lt _ (by positivity), (Nat.mod_le _ _).trans_lt hvalue⟩,
    fun code d hcode _ _ => ⟨formatCode_length code d, fun i hi => formatCode_byteAt hi,
      fun ch hch => isDecimalChar_of_mem_formatCode hch, ?_⟩⟩
  rw [decimal_formatCode, Nat.mod_eq_of_lt hcode]

/-! ## Every string is a code (R175) -/

/-- Formatting the number a string of decimal characters denotes gives the string back. -/
theorem formatCode_decimal {str : List Byte} (h : ∀ ch ∈ str, Spec.IsDecimalChar ch) :
    formatCode (Spec.decimal str) str.length = str := by
  induction str using List.reverseRecOn with
  | nil => rfl
  | append_singleton str ch ih =>
    obtain ⟨n, hn, rfl⟩ := exists_eq_chr_of_isDecimalChar (h ch (by simp))
    have hdiv : (10 * Spec.decimal str + n) / 10 = Spec.decimal str := by omega
    have hmod : (10 * Spec.decimal str + n) % 10 = n := by omega
    rw [decimal_append_chr str hn, List.length_append, List.length_singleton, formatCode_succ, hdiv, hmod,
      ih fun c hc => h c (by simp [hc])]

/-- The number has no more digits than the string has characters: reading back its formatted code is a remainder. -/
theorem decimal_lt {str : List Byte} (h : ∀ ch ∈ str, Spec.IsDecimalChar ch) : Spec.decimal str < 10 ^ str.length := by
  have hmod := decimal_formatCode (Spec.decimal str) str.length
  rw [formatCode_decimal h] at hmod
  rw [hmod]
  exact Nat.mod_lt _ (by positivity)

theorem reduce_of_lt {value d : Nat} (h : value < 10 ^ d) : reduce value d = value := Nat.mod_eq_of_lt h

/-- Settles O59: `2 ^ 31` lies between `2 * 10 ^ 9` and `3 * 10 ^ 9`; a shorter string is the code of the number it denotes. -/
theorem tenDigitsKeepTheWholeValue : Obligations.TenDigitsKeepTheWholeValue := by
  refine ⟨fun value hvalue => ⟨reduce_of_lt (by omega), ?_⟩, fun d str _ hd hlen hchars => ?_⟩
  · have hfirst : (formatCode value 10).getD 0 0#8 = chr (value / 10 ^ 9 % 10) := formatCode_byteAt (by decide)
    have hdigit : value / 10 ^ 9 % 10 < 3 := by omega
    rw [hfirst]
    interval_cases value / 10 ^ 9 % 10 <;> decide
  · subst hlen
    have hlt := decimal_lt hchars
    have hpow : 10 ^ str.length ≤ 10 ^ 9 := Nat.pow_le_pow_right (by decide) hd
    exact ⟨Spec.decimal str, by omega, by rw [reduce_of_lt hlt, formatCode_decimal hchars]⟩

/-! ## The HOTP command (R178, R179) -/

/-- The code buffer of a formatted code holds its characters, then zeros. -/
theorem codeBytes_formatCode (code d : Nat) : codeBytes (formatCode code d) = Spec.codeBuffer code d := by
  refine Vector.ext fun i hi => ?_
  rw [Spec.codeBuffer, Vector.getElem_ofFn]
  refine (codeBytes_get (formatCode code d) ⟨i, hi⟩).trans ?_
  split
  · next h => exact formatCode_byteAt h
  · next h => exact formatCode_byteAt_of_le (Nat.le_of_not_lt h)

/-- The success of a call is the spec's record after it. -/
theorem succeedCall_eq_callSucceeded (k : Nat) (c : DWord) (S : OtpState) :
    succeedCall k c S = Spec.callSucceeded k c S := by
  rw [Spec.callSucceeded, ← codeBytes_formatCode]
  rfl

/-- The error completion of a call is the spec's record after it. -/
theorem failCall_eq_callFailed (k : Nat) (E : Failure) (S : OtpState) : failCall k E S = Spec.callFailed k E.code S := rfl

theorem validateHotp_of_digits {S : OtpState} (h : S.digits = 0#32 ∨ 10 < S.digits.toNat) :
    validateHotp S = some .invalidArgument := by
  rcases h with h | h <;> simp [validateHotp, digitsOperand, h]

theorem validateHotp_of_keyOvf {S : OtpState} (h1 : 1 ≤ S.digits.toNat) (h10 : S.digits.toNat ≤ 10) (hovf : S.keyOvf = true) :
    validateHotp S = some .keyTooLong := by
  rw [validateHotp, digitsOperand, if_neg (Nat.one_le_iff_ne_zero.mp h1), if_neg (Nat.not_lt.mpr h10), if_pos hovf]

theorem doHotp_of_passes (k : Nat) {S : OtpState} (h : Spec.HotpPasses S) :
    doHotp k S = Spec.callSucceeded k S.counter S := by
  rw [doHotp, (validateHotp_eq_none_iff S).mpr h]
  exact succeedCall_eq_callSucceeded k S.counter S

theorem doHotp_of_fails (k : Nat) {S : OtpState} {E : Failure} (h : validateHotp S = some E) :
    doHotp k S = Spec.callFailed k E.code S := by
  rw [doHotp, h]
  rfl

theorem exec_hotp (s : State) : exec .hotp s = .next (Spec.written s (doHotp s.keyMax.bytes s.otp)) := rfl

/-- Settles O20: the branches of the validation, each with the completion it leads to. -/
theorem hotpFollowsItsPseudocode : Obligations.HotpFollowsItsPseudocode := by
  intro s
  simp only [exec_hotp]
  refine ⟨fun hpass => ?_, fun hdigits => ?_, fun h1 h10 hovf => ?_⟩
  · rw [doHotp_of_passes _ hpass]
  · rw [doHotp_of_fails _ (validateHotp_of_digits hdigits)]
    rfl
  · rw [doHotp_of_fails _ (validateHotp_of_keyOvf h1 h10 hovf)]
    rfl

end Sys2Proof.Machine

/-! PROOFS. TOTP (spec/43_totp.md): the sign of the time, the counter the scaler derives, and the TOTP command. -/

namespace Sys2Proof.Machine

/-! ## The counter (R200, R204) -/

/-- A time that is not negative has its top bit clear. -/
theorem msb_of_toInt_nonneg {x : DWord} (h : 0 ≤ x.toInt) : x.msb = false :=
  BitVec.msb_eq_toInt.trans (decide_eq_false (Int.not_lt.mpr h))

theorem msb_now_of_totpPasses {S : OtpState} (h : Spec.TotpPasses S) : S.now.msb = false := by
  obtain ⟨-, -, -, hnow, -⟩ := h
  exact msb_of_toInt_nonneg hnow

/-- A time that is not negative is below `2 ^ 63`, and so is its quotient by any window. -/
theorem tscale_now_lt {x : DWord} (h : x.msb = false) (w : Nat) : tscale x.toNat w < 2 ^ 63 :=
  (Nat.div_le_self _ _).trans_lt (BitVec.toNat_lt_of_msb_false h)

theorem totpCounter_of_msb {S : OtpState} (h : S.now.msb = false) :
    totpCounter S = BitVec.ofNat 64 (tscale S.now.toNat S.window.toNat) := by
  rw [totpCounter, nowOperand, BitVec.toNat_toInt_of_msb _ h]
  rfl

/-- For a time that is not negative the counter TOTP derives is the spec's time step. -/
theorem totpCounter_eq_timeStep {S : OtpState} (h : S.now.msb = false) : totpCounter S = Spec.timeStep S := by
  rw [totpCounter_of_msb h, Spec.timeStep, BitVec.toInt_eq_toNat_of_msb h]
  rfl

/-- The counter loses nothing of the quotient: "it always fits the 64-bit counter" (R200). -/
theorem timeStep_toNat {S : OtpState} (h : S.now.msb = false) :
    (Spec.timeStep S).toNat = tscale S.now.toNat S.window.toNat := by
  have hlt := tscale_now_lt h S.window.toNat
  rw [← totpCounter_eq_timeStep h, totpCounter_of_msb h, BitVec.toNat_ofNat]
  exact Nat.mod_eq_of_lt (by omega)

/-! ## The validation (R203) -/

/-- Checks 1 to 4 give the same error: any of them that applies decides the failure, whatever KEY_OVF is. -/
theorem validateTotp_of_invalid {S : OtpState}
    (h : S.digits = 0#32 ∨ 10 < S.digits.toNat ∨ S.window = 0#32 ∨ S.now.msb = true) :
    validateTotp S = some .invalidArgument := by
  rcases h with hd | hd | hw | hn
  · simp [validateTotp, digitsOperand, hd]
  · simp [validateTotp, digitsOperand, hd]
  · simp [validateTotp, windowOperand, hw]
  · simp [validateTotp, nowOperand, BitVec.toInt_neg_of_msb_true hn]

/-- With the operands in range only check 5 is left. -/
theorem validateTotp_of_keyOvf {S : OtpState} (h1 : 1 ≤ S.digits.toNat) (h10 : S.digits.toNat ≤ 10) (hw : S.window ≠ 0#32)
    (hn : S.now.msb = false) (hovf : S.keyOvf = true) : validateTotp S = some .keyTooLong := by
  have hw0 : S.window.toNat ≠ 0 := fun h => hw (BitVec.eq_of_toNat_eq h)
  rw [validateTotp, digitsOperand, windowOperand, nowOperand, if_neg (Nat.one_le_iff_ne_zero.mp h1), if_neg (Nat.not_lt.mpr h10),
    if_neg hw0, if_neg (Int.not_lt.mpr (BitVec.toInt_nonneg_of_msb_false hn)), if_pos hovf]

/-! ## The TOTP command (R205) -/

theorem doTotp_of_passes (k : Nat) {S : OtpState} (h : Spec.TotpPasses S) :
    doTotp k S = { Spec.callSucceeded k (Spec.timeStep S) S with counter := Spec.timeStep S } := by
  rw [doTotp, (validateTotp_eq_none_iff_totpPasses S).mpr h, totpCounter_eq_timeStep (msb_now_of_totpPasses h)]
  exact succeedCall_eq_callSucceeded k _ _

theorem doTotp_of_fails (k : Nat) {S : OtpState} {E : Failure} (h : validateTotp S = some E) :
    doTotp k S = Spec.callFailed k E.code S := by
  rw [doTotp, h]
  exact failCall_eq_callFailed k E S

theorem exec_totp (s : State) : exec .totp s = .next (Spec.written s (doTotp s.keyMax.bytes s.otp)) := rfl

/-- Settles O21: the branches of the validation, each with the completion it leads to, and the quotient that COUNTER takes. -/
theorem totpFollowsItsPseudocode : Obligations.TotpFollowsItsPseudocode := by
  intro s
  simp only [exec_totp]
  refine ⟨fun hpass => ?_, fun hinvalid => ?_, fun h1 h10 hw hn hovf => ?_⟩
  · have hn := msb_now_of_totpPasses hpass
    have hstep := timeStep_toNat hn
    exact ⟨by rw [doTotp_of_passes _ hpass], hstep, hstep.trans_lt (tscale_now_lt hn _)⟩
  · rw [doTotp_of_fails _ (validateTotp_of_invalid hinvalid)]
    rfl
  · rw [doTotp_of_fails _ (validateTotp_of_keyOvf h1 h10 hw hn hovf)]
    rfl

end Sys2Proof.Machine

/-! PROOFS. CLEAR and illegal command words (spec/44_system.md), for every instruction that runs the one or is the other. -/

namespace Sys2Proof.Machine

/-! ## Illegal command words (R222) -/

/-- Each of the 12 opcodes without a meaning is an illegal word. -/
theorem commandOf_of_mem_illegalOpcodes {i : Instr} (hi : i ∈ Spec.illegalOpcodes) : commandOf i = some .illegal := by
  fin_cases hi <;> rfl

/-- Each of the 28 reserved bits makes an illegal word. -/
theorem commandOf_of_mem_illegalReserved {i : Instr} {w : Word} (hi : i ∈ Spec.illegalReserved w) :
    commandOf i = some .illegal := by
  fin_cases hi <;> rfl

/-- An illegal word changes the outcome fields alone: the key, an unread code and the operands stay. -/
theorem exec_of_commandOf_illegal {i : Instr} (hi : commandOf i = some .illegal) (s : State) :
    exec i s = .next (Spec.written s (Spec.failed 3#4 s.otp)) :=
  exec_of_commandOf hi s

/-- Settles O24: the rows of the two lists and a write of an illegal word to CMD are all the illegal command. -/
theorem illegalWordsChangeOnlyTheOutcome : Obligations.IllegalWordsChangeOnlyTheOutcome :=
  ⟨fun s _ hi => exec_of_commandOf_illegal (commandOf_of_mem_illegalOpcodes hi) s,
    fun s _ _ hi => exec_of_commandOf_illegal (commandOf_of_mem_illegalReserved hi) s,
    fun s _ hw => exec_wrCmd_of_illegal hw s⟩

/-! ## CLEAR (R220) -/

/-- The record after CLEAR, field by field: no key, no code, success, and the operands as before. -/
theorem doClear_eq (k : Nat) (S : OtpState) :
    doClear k S =
      { S with
        key := List.replicate k 0#8, keyLen := 0, keyOvf := false
        code := Vector.replicate 10 0#8, codeLen := 0, codeVal := 0#32
        ok := true, err := false, errCode := 0#4 } := rfl

/-- An instruction that runs CLEAR completes on the cleared record. -/
theorem exec_of_commandOf_clear {i : Instr} (hi : commandOf i = some .clear) (s : State) :
    exec i s = .next (Spec.written s (doClear s.keyMax.bytes s.otp)) :=
  exec_of_commandOf hi s

/-- Settles O23: the row CLEAR and WR CMD with the word 4 both run CLEAR. -/
theorem clearZeroisesKeyAndCode : Obligations.ClearZeroisesKeyAndCode := by
  intro s i hi
  have hclear : commandOf i = some .clear := by fin_cases hi <;> decide
  rw [exec_of_commandOf_clear hclear, doClear_eq]

end Sys2Proof.Machine

/-! PROOFS. Reset (spec/70_reset_and_hazards.md): the values the reset event gives the record, whatever it held. -/

namespace Sys2Proof.Machine

/-! ## The reset record (R20, R260) -/

/-- The operand registers take the defaults of R8 for DIGITS and WINDOW, and 0 for the two 64-bit registers. -/
theorem reset_operands (k : Nat) :
    (OtpState.reset k).digits = 6#32 ∧ (OtpState.reset k).window = 30#32 ∧
    (OtpState.reset k).counter = 0#64 ∧ (OtpState.reset k).now = 0#64 := ⟨rfl, rfl, rfl, rfl⟩

/-- No outcome is recorded: neither success nor failure, which no write to CMD leaves (R29). -/
theorem reset_outcome (k : Nat) :
    (OtpState.reset k).ok = false ∧ (OtpState.reset k).err = false ∧ (OtpState.reset k).errCode = 0#4 := ⟨rfl, rfl, rfl⟩

/-- A code from before the reset is gone after it. -/
theorem reset_noCode (k : Nat) : NoCode (OtpState.reset k) := clearCode_noCode (OtpState.reset k)

/-- Settles O8: the step is the reset event, whose record has the reset operands and outcome, no key and no code. -/
theorem resetGivesEveryFieldItsValue : Obligations.ResetGivesEveryFieldItsValue := by
  intro s rest hin
  obtain ⟨hdigits, hwindow, hcounter, hnow⟩ := reset_operands s.keyMax.bytes
  obtain ⟨hzeros, hlen, hovf⟩ := reset_noKey s.keyMax.bytes
  obtain ⟨hok, herr, herrCode⟩ := reset_outcome s.keyMax.bytes
  obtain ⟨hcodeLen, hchars, hcodeVal⟩ := reset_noCode s.keyMax.bytes
  exact ⟨_, step_of_reset hin, hdigits, hwindow, hcounter, hnow, hzeros, hlen, hovf, hok, herr, herrCode,
    hchars, hcodeLen, hcodeVal, rfl⟩

end Sys2Proof.Machine

/-! PROOFS. Decode and encode (spec/30_encoding.md): each undoes the other, on words and on bytes, and a command word does what the
`WR CMD` that carries it does. -/

namespace Sys2Proof.Machine

/-! ## Decoding what was encoded (R90 to R97) -/

section
open Laws.RoundTrip

/-- Decoding the word of a well-formed instruction gives it back: the lemmas of the 172 rows together. -/
theorem decodeWord_encode {i : Instr} (h : wellFormed i = true) : decodeWord (encode i) = i := by
  revert h
  change Statement i
  cases i
  exacts [
    hotp, totp, ldtime, clear, illegalOpc0, illegalOpc5, illegalOpc6, illegalOpc7, illegalOpc8, illegalOpc9,
    illegalOpc10, illegalOpc11, illegalOpc12, illegalOpc13, illegalOpc14, illegalOpc15, illegalRsvd4 _, illegalRsvd5 _,
    illegalRsvd6 _, illegalRsvd7 _, illegalRsvd8 _, illegalRsvd9 _, illegalRsvd10 _, illegalRsvd11 _, illegalRsvd12 _,
    illegalRsvd13 _, illegalRsvd14 _, illegalRsvd15 _, illegalRsvd16 _, illegalRsvd17 _, illegalRsvd18 _,
    illegalRsvd19 _, illegalRsvd20 _, illegalRsvd21 _, illegalRsvd22 _, illegalRsvd23 _, illegalRsvd24 _,
    illegalRsvd25 _, illegalRsvd26 _, illegalRsvd27 _, illegalRsvd28 _, illegalRsvd29 _, illegalRsvd30 _,
    illegalRsvd31 _, rdCmd, rdStatus, rdDigits, rdWindow, rdCounterLo, rdCounterHi, rdNowLo, rdNowHi, rdKeyPush,
    rdKeyLen, rdCodeLen, rdCodeVal, rdSlot12, rdSlot13, rdSlot14, rdSlot15, rdCode0, rdCode1, rdCode2, rdCode3,
    rdCode4, rdCode5, rdCode6, rdCode7, rdCode8, rdCode9, rdSlot26, rdSlot27, rdSlot28, rdSlot29, rdSlot30, rdSlot31,
    rdSlot32, rdSlot33, rdSlot34, rdSlot35, rdSlot36, rdSlot37, rdSlot38, rdSlot39, rdSlot40, rdSlot41, rdSlot42,
    rdSlot43, rdSlot44, rdSlot45, rdSlot46, rdSlot47, rdSlot48, rdSlot49, rdSlot50, rdSlot51, rdSlot52, rdSlot53,
    rdSlot54, rdSlot55, rdSlot56, rdSlot57, rdSlot58, rdSlot59, rdSlot60, rdSlot61, rdSlot62, rdSlot63, wrCmd _,
    wrStatus _, wrDigits _, wrWindow _, wrCounterLo _, wrCounterHi _, wrNowLo _, wrNowHi _, wrKeyPush _, wrKeyLen _,
    wrCodeLen _, wrCodeVal _, wrSlot12 _, wrSlot13 _, wrSlot14 _, wrSlot15 _, wrCode0 _, wrCode1 _, wrCode2 _,
    wrCode3 _, wrCode4 _, wrCode5 _, wrCode6 _, wrCode7 _, wrCode8 _, wrCode9 _, wrSlot26 _, wrSlot27 _, wrSlot28 _,
    wrSlot29 _, wrSlot30 _, wrSlot31 _, wrSlot32 _, wrSlot33 _, wrSlot34 _, wrSlot35 _, wrSlot36 _, wrSlot37 _,
    wrSlot38 _, wrSlot39 _, wrSlot40 _, wrSlot41 _, wrSlot42 _, wrSlot43 _, wrSlot44 _, wrSlot45 _, wrSlot46 _,
    wrSlot47 _, wrSlot48 _, wrSlot49 _, wrSlot50 _, wrSlot51 _, wrSlot52 _, wrSlot53 _, wrSlot54 _, wrSlot55 _,
    wrSlot56 _, wrSlot57 _, wrSlot58 _, wrSlot59 _, wrSlot60 _, wrSlot61 _, wrSlot62 _, wrSlot63 _]

end

/-! ## Words as bytes (log 5) -/

@[simp] theorem leBytes_length (n v : Nat) : (leBytes n v).length = n := by
  induction n generalizing v with
  | zero => rfl
  | succ n ih => rw [leBytes, List.length_cons, ih]

/-- Reading `n` bytes back gives the number modulo `256 ^ n`. -/
theorem leNat_leBytes (n v : Nat) : leNat (leBytes n v) = v % 256 ^ n := by
  induction n generalizing v with
  | zero => rw [leBytes, leNat, pow_zero, Nat.mod_one]
  | succ n ih => rw [leBytes, leNat, ih, pow_succ', Nat.mod_mul, BitVec.toNat_ofNat]

/-- The four bytes of a number are the command word of its low 32 bits. -/
theorem busWordOfBytes_leBytes_four (v : Nat) : busWordOfBytes (leBytes 4 v) = .ok (.command (BitVec.ofNat 32 v)) := by
  have hmod : BitVec.ofNat 32 (v % 256 ^ 4) = BitVec.ofNat 32 v := BitVec.eq_of_toNat_eq (by simp)
  rw [busWordOfBytes, if_pos (leBytes_length 4 v), leNat_leBytes, hmod]

/-- The five bytes of a number of 40 bits are the transaction word of it when bit 39 is clear. -/
theorem busWordOfBytes_leBytes_five {v : Nat} (h : v < 2 ^ 40) : busWordOfBytes (leBytes 5 v) =
    if v < 2 ^ 39 then .ok (.transaction (BitVec.ofNat 39 v)) else .error .bit39Set := by
  have hmod : v % 256 ^ 5 = v := Nat.mod_eq_of_lt (by omega)
  rw [busWordOfBytes, if_neg (by simp), if_pos (leBytes_length 5 v), leNat_leBytes, hmod]

/-- The layout of a word in bytes loses nothing. -/
theorem busWordOfBytes_bytesOfBusWord (b : BusWord) : busWordOfBytes (bytesOfBusWord b) = .ok b := by
  cases b with
  | transaction t =>
    have hlt := t.isLt
    rw [bytesOfBusWord, busWordOfBytes_leBytes_five (by omega), if_pos hlt, BitVec.ofNat_toNat, BitVec.setWidth_eq]
  | command w => rw [bytesOfBusWord, busWordOfBytes_leBytes_four, BitVec.ofNat_toNat, BitVec.setWidth_eq]

/-- The bytes of a word decode to the instruction of the word. -/
theorem decodeBytes_bytesOfBusWord (b : BusWord) : decodeBytes (bytesOfBusWord b) = .ok (decodeWord b) := by
  rw [decodeBytes, busWordOfBytes_bytesOfBusWord]

/-- Settles O2: every row gives its instruction back, and the bytes give the word back. Their order is the model's (log 5), and so is
the row of an illegal word with several reserved bits (log 6). -/
theorem decodeOfEncodeIsTheInstruction : Obligations.DecodeOfEncodeIsTheInstruction := by
  intro i hi
  refine ⟨decodeWord_encode hi, ?_⟩
  rw [encodeBytes, decodeBytes_bytesOfBusWord, decodeWord_encode hi]

/-! ## Encoding what was decoded -/

/-- The search for a reserved bit fails exactly when there is none (R93). -/
theorem lowestReserved_eq_none_iff (w : Word) : lowestReserved w = none ↔ cRsvd w = 0#28 := by
  simp only [lowestReserved, List.find?_eq_none, List.mem_map, List.mem_range, forall_exists_index, and_imp,
    forall_apply_eq_imp_iff₂, BitVec.eq_of_getLsbD_eq_iff, cRsvd, BitVec.getLsbD_extractLsb', BitVec.getLsbD_zero]
  refine forall₂_congr fun j hj => ?_
  simp [hj, Nat.add_comm]

/-- The bit found is one of the 28 reserved ones. -/
theorem lowestReserved_bounds {w : Word} {k : Nat} (h : lowestReserved w = some k) : 4 ≤ k ∧ k < 32 := by
  have hmem := List.mem_of_find?_eq_some h
  simp only [List.mem_map, List.mem_range] at hmem
  omega

theorem encode_opcRow (opc : BitVec 4) : encode (opcRow opc.toNat) = .command (0#28 ++ opc) := by
  revert opc
  decide

theorem wellFormed_opcRow (n : Nat) : wellFormed (opcRow n) = true := by
  unfold opcRow
  split <;> rfl

theorem encode_rsvdRow (k : Nat) (w : Word) : encode (rsvdRow k w) = .command w := by
  unfold rsvdRow
  split <;> rfl

/-- The row of a reserved bit is well formed for the words whose lowest one it is (log 6). -/
theorem wellFormed_rsvdRow {w : Word} {k : Nat} (h : lowestReserved w = some k) : wellFormed (rsvdRow k w) = true := by
  obtain ⟨hlo, hhi⟩ := lowestReserved_bounds h
  interval_cases k
  all_goals exact beq_iff_eq.mpr h

/-- Every bit of a command word is kept. -/
theorem encode_decodeCommand (w : Word) : encode (decodeCommand w) = .command w := by
  cases h : lowestReserved w with
  | none =>
    rw [decodeCommand_of_none h, encode_opcRow,
      ← eq_append_cOpc_of_cRsvd_eq_zero ((lowestReserved_eq_none_iff w).mp h)]
  | some k => rw [decodeCommand_of_lowestReserved (beq_iff_eq.mpr h), encode_rsvdRow]

theorem wellFormed_decodeCommand (w : Word) : wellFormed (decodeCommand w) = true := by
  cases h : lowestReserved w with
  | none => rw [decodeCommand_of_none h, wellFormed_opcRow]
  | some k => rw [decodeCommand_of_lowestReserved (beq_iff_eq.mpr h), wellFormed_rsvdRow h]

/-- The row of each index encodes to the read of that index. -/
theorem encode_readRow (idx : Idx) : encode (readRow idx) = .transaction (readWord idx) := by
  obtain ⟨n, hn⟩ := idx
  interval_cases n
  all_goals rfl

theorem wellFormed_readRow (idx : Idx) : wellFormed (readRow idx) = true := by
  obtain ⟨n, hn⟩ := idx
  interval_cases n
  all_goals rfl

/-- The row of each index encodes to the write of that index with the same data. -/
theorem encode_writeRow (idx : Idx) (v : Word) : encode (writeRow idx v) = .transaction (writeWord idx v) := by
  obtain ⟨n, hn⟩ := idx
  interval_cases n
  all_goals rfl

theorem wellFormed_writeRow (idx : Idx) (v : Word) : wellFormed (writeRow idx v) = true := by
  obtain ⟨n, hn⟩ := idx
  interval_cases n
  all_goals rfl

/-- A write word is its three fields (R91). -/
theorem writeWord_fields {t : BitVec 39} (h : tWe t = true) : writeWord (tIdx t) (tWdata t) = t := by
  have hwe : t.extractLsb' 38 1 = 1#1 := by
    ext j hj
    obtain rfl : j = 0 := by omega
    simpa [tWe] using h
  rw [writeWord, ← hwe, tIdx, tWdata, BitVec.extractLsb'_append_extractLsb'_eq_extractLsb' (start₁ := 32) (len₁ := 6) rfl,
    BitVec.extractLsb'_append_extractLsb'_eq_extractLsb' (start₁ := 0) (len₁ := 32) rfl]
  exact BitVec.extractLsb'_eq_self

/-- Every word decodes to a well-formed instruction. -/
theorem wellFormed_decodeWord (b : BusWord) : wellFormed (decodeWord b) = true := by
  cases b with
  | command w => exact wellFormed_decodeCommand w
  | transaction t =>
    cases h : tWe t with
    | false => rw [decodeWord_transaction_of_read h, wellFormed_readRow]
    | true => rw [decodeWord_transaction_of_write h, wellFormed_writeRow]

/-- Settles O3: a command word and the rows of an index lose nothing that they use. Which row a word with several reserved bits is
named by is the model's choice (log 6). -/
theorem encodeOfDecodeKeepsEveryUsedBit : Obligations.EncodeOfDecodeKeepsEveryUsedBit := by
  refine ⟨encode_decodeCommand, fun t ht => ?_, fun t ht => ?_, wellFormed_decodeWord⟩
  · rw [decodeWord_transaction_of_write ht, encode_writeRow, writeWord_fields ht]
  · rw [decodeWord_transaction_of_read ht, encode_readRow]

/-! ## The two shapes of a command (R90, R126) -/

theorem commandOf_opcRow (opc : BitVec 4) : commandOf (opcRow opc.toNat) = some (decodeCmd (0#28 ++ opc)) := by
  revert opc
  decide

theorem commandOf_rsvdRow (k : Nat) (w : Word) : commandOf (rsvdRow k w) = some .illegal := by
  unfold rsvdRow
  split <;> rfl

/-- The row of a command word runs the command that `decode_cmd` gives. -/
theorem commandOf_decodeCommand (w : Word) : commandOf (decodeCommand w) = some (decodeCmd w) := by
  cases h : lowestReserved w with
  | none =>
    rw [decodeCommand_of_none h, commandOf_opcRow,
      ← eq_append_cOpc_of_cRsvd_eq_zero ((lowestReserved_eq_none_iff w).mp h)]
  | some k =>
    have hrsvd : cRsvd w ≠ 0#28 := fun hz => by simp [(lowestReserved_eq_none_iff w).mpr hz] at h
    rw [decodeCommand_of_lowestReserved (beq_iff_eq.mpr h), commandOf_rsvdRow, decodeCmd_of_cRsvd_ne_zero hrsvd]

/-- Settles O5: both shapes run the one command of the word. -/
theorem commandWordRunsAsWriteToCmd : Obligations.CommandWordRunsAsWriteToCmd := by
  intro w s
  exact ⟨(exec_wrCmd_eq_exec (commandOf_decodeCommand w) rfl s).symm,
    congrArg (fun i => exec i s) (decodeTransaction_writeWord 0#6 w)⟩

/-! ## Words of the opcode table -/

/-- Settles O1: the fifteen words, each decoded from its bytes. -/
theorem specWordsDecodeToTheirRows : Obligations.SpecWordsDecodeToTheirRows := by
  unfold Obligations.SpecWordsDecodeToTheirRows
  decide

/-- A table word that decodes is the word that reaches the core. -/
theorem decodeWord_busWordOfTable {nbits w : Nat} {i : Instr} (h : decodeTableWord nbits w = some i) :
    decodeWord (busWordOfTable nbits w) = i := by
  have hlt : w < 2 ^ nbits := by
    by_contra hge
    simp [decodeTableWord, hge] at h
  rw [decodeTableWord, if_pos hlt, decodeBytes] at h
  by_cases h4 : (nbits + 7) / 8 = 4
  · rw [h4, busWordOfBytes_leBytes_four] at h
    rw [busWordOfTable, if_pos (by omega)]
    exact Option.some.inj h
  by_cases h5 : (nbits + 7) / 8 = 5
  · have h40 : w < 2 ^ 40 := hlt.trans_le (Nat.pow_le_pow_right (by decide) (by omega))
    rw [h5, busWordOfBytes_leBytes_five h40] at h
    rw [busWordOfTable, if_neg (by omega)]
    by_cases h39 : w < 2 ^ 39
    · rw [if_pos h39] at h
      exact Option.some.inj h
    · rw [if_neg h39] at h
      exact nomatch h
  · simp [busWordOfBytes, h4, h5, Except.toOption] at h

/-- Settles O7: the word put first is the one the next step takes, and it decodes to the table's instruction. -/
theorem placedTableWordRunsNext : Obligations.PlacedTableWordRunsNext := by
  intro s nbits w i h
  rw [State.withFetchWord, step_putEvent_word, decodeWord_busWordOfTable h]

/-- A word that waits first is decoded and executed. -/
theorem step_of_word {s : State} {b : BusWord} {rest : List HostEvent} (h : s.inputs = .word b :: rest) :
    step s = exec (decodeWord b) { s with inputs := rest } := by
  simp only [step, takeEvent_cons h]

/-- With no event waiting nothing happens. -/
theorem step_of_idle {s : State} (h : s.inputs = []) : step s = .next s := by
  simp only [step, takeEvent_nil h]

/-- Settles O6: the event that comes first is the one a step serves. -/
theorem stepRunsTheDecodedWord : Obligations.StepRunsTheDecodedWord :=
  ⟨fun _ _ _ => step_of_word, fun _ _ => step_of_reset, fun _ => step_of_idle⟩

end Sys2Proof.Machine

/-! PROOFS. The registers (spec/10_state.md, spec/40_host_access.md): reads, operand writes, the two halves of the 64-bit registers and the
pushed byte. -/

namespace Sys2Proof.Machine

/-! ## The halves of the 64-bit registers (R25, R26) -/

@[simp] theorem loHalf_joinHalves (hi lo : Word) : loHalf (joinHalves hi lo) = lo := BitVec.extractLsb'_append_eq_right

@[simp] theorem hiHalf_joinHalves (hi lo : Word) : hiHalf (joinHalves hi lo) = hi := BitVec.extractLsb'_append_eq_left

@[simp] theorem joinHalves_hiHalf_loHalf (v : DWord) : joinHalves (hiHalf v) (loHalf v) = v :=
  BitVec.extractLsb'_append_extractLsb' (w := 32) (len := 32)

/-- Writing the low half and then the high half loads COUNTER whole. -/
theorem setCounterHi_setCounterLo (v : DWord) (S : OtpState) :
    setCounterHi (hiHalf v) (setCounterLo (loHalf v) S) = { S with counter := v } := by
  simp [setCounterHi, setCounterLo]

/-- The two halves of COUNTER do not disturb each other. -/
theorem setCounterLo_setCounterHi_comm (lo hi : Word) (S : OtpState) :
    setCounterLo lo (setCounterHi hi S) = setCounterHi hi (setCounterLo lo S) := by
  simp [setCounterHi, setCounterLo]

/-- Writing the low half and then the high half loads NOW whole. -/
theorem setNowHi_setNowLo (v : DWord) (S : OtpState) :
    setNowHi (hiHalf v) (setNowLo (loHalf v) S) = { S with now := v } := by
  simp [setNowHi, setNowLo]

/-- The two halves of NOW do not disturb each other. -/
theorem setNowLo_setNowHi_comm (lo hi : Word) (S : OtpState) :
    setNowLo lo (setNowHi hi S) = setNowHi hi (setNowLo lo S) := by
  simp [setNowHi, setNowLo]

/-- Settles O43: the halves make the value, and their order does not matter. -/
theorem twoHalvesMakeTheWholeRegister : Obligations.TwoHalvesMakeTheWholeRegister := by
  intro s v
  have hcounter := setCounterHi_setCounterLo v s.otp
  have hnow := setNowHi_setNowLo v s.otp
  refine ⟨⟨_, _, rfl, rfl, congrArg (Spec.written s) hcounter⟩, ⟨_, _, rfl, rfl, congrArg (Spec.written s) ?_⟩,
    ⟨_, _, rfl, rfl, congrArg (Spec.written s) hnow⟩, ⟨_, _, rfl, rfl, congrArg (Spec.written s) ?_⟩⟩
  · exact (setCounterLo_setCounterHi_comm _ _ _).trans hcounter
  · exact (setNowLo_setNowHi_comm _ _ _).trans hnow

/-! ## Reads and operand writes (R120 to R131) -/

theorem exec_rdStatus (s : State) : exec .rdStatus s = .next (Spec.answered s (statusWord s.otp)) := rfl

/-- Settles O11: STATUS is the sum of its fields, every other row reads its register by definition. -/
theorem mappedReadsReturnTheirRegisters : Obligations.MappedReadsReturnTheirRegisters := by
  intro s
  refine ⟨rfl, ?_, rfl, rfl, rfl, rfl, rfl, rfl, rfl, rfl, rfl, rfl, rfl, rfl, rfl, rfl, rfl, rfl, rfl, rfl, rfl, rfl⟩
  rw [exec_rdStatus, statusWord_eq_ofNat]

/-- Settles O16: the six writes of `exec` are the spec's record updates. -/
theorem operandWritesStoreTheirWord : Obligations.OperandWritesStoreTheirWord :=
  fun _ _ => ⟨rfl, rfl, rfl, rfl, rfl, rfl⟩

/-- Settles O19: a half that was written reads back, and the other one is the half of the old value. -/
theorem readAfterWriteReturnsTheWord : Obligations.ReadAfterWriteReturnsTheWord := by
  intro s v
  have hread {t : State} {x y : Word} (h : x = y) :
      (.next (Spec.answered t x) : Host.Outcome State Fault Refusal) = .next (Spec.answered t y) := by rw [h]
  exact ⟨⟨_, rfl, rfl⟩, ⟨_, rfl, rfl⟩,
    ⟨_, rfl, hread (loHalf_joinHalves _ _), hread (hiHalf_joinHalves _ _)⟩,
    ⟨_, rfl, hread (hiHalf_joinHalves _ _), hread (loHalf_joinHalves _ _)⟩,
    ⟨_, rfl, hread (loHalf_joinHalves _ _), hread (hiHalf_joinHalves _ _)⟩,
    ⟨_, rfl, hread (hiHalf_joinHalves _ _), hread (loHalf_joinHalves _ _)⟩⟩

/-! ## The pushed byte (R36, R127) -/

/-- A push into a buffer with room puts its byte at the end of the key. -/
theorem keyOperand_keyPush {k : Nat} {S : OtpState} (b : Byte) (hsize : S.key.length = k) (hroom : S.keyLen < k) :
    keyOperand (keyPush k b S) = keyOperand S ++ [b] := by
  have hlt : S.keyLen < (S.key.set S.keyLen b).length := by rwa [List.length_set, hsize]
  rw [keyPush_of_room b hroom, keyOperand, List.take_succ_eq_append_getElem hlt, List.getElem_set_self,
    List.take_set_of_le le_rfl]
  rfl

/-- Settles O18: with room a push is an append to the key operand. -/
theorem pushedByteEndsTheKey : Obligations.PushedByteEndsTheKey := by
  intro s v hinv hroom
  refine ⟨_, exec_wrKeyPush v s, keyOperand_keyPush (keyByte v) hinv.key.size hroom, ?_⟩
  rw [State.completeWrite_otp, keyPush_of_room _ hroom]

/-! ## LDTIME and CLEAR (R208, R220, R224) -/

theorem exec_ldtime (s : State) : exec .ldtime s = .next (s.afterDraw.completeWrite (doLdtime s.drawnTime s.otp)) := rfl

/-- Settles O22: LDTIME takes the value drawn, the next one named or else the free one of the draw (log 3). -/
theorem ldtimeLoadsTheDrawnTime : Obligations.LdtimeLoadsTheDrawnTime := by
  refine fun s => ⟨fun x rest h => ?_, fun h => ?_⟩
  · rw [exec_ldtime, drawnTime_of_named h, State.afterDraw, h]
    rfl
  · rw [exec_ldtime, drawnTime_of_free h, State.afterDraw, h]
    rfl

/-- Settles O42: CLEAR overwrites what it writes, and the six writes give the operands the values they have at reset. -/
theorem clearAndDefaultsAreASoftReset : Obligations.ClearAndDefaultsAreASoftReset := by
  refine fun s => ⟨⟨_, rfl, rfl⟩, ⟨_, _, _, _, _, _, _, rfl, rfl, rfl, rfl, rfl, rfl, rfl, ?_⟩⟩
  have hcounter (S : OtpState) : setCounterHi 0#32 (setCounterLo 0#32 S) = { S with counter := 0#64 } :=
    setCounterHi_setCounterLo 0#64 S
  have hnow (S : OtpState) : setNowHi 0#32 (setNowLo 0#32 S) = { S with now := 0#64 } := setNowHi_setNowLo 0#64 S
  simp only [State.completeWrite_otp, hcounter, hnow]
  rfl

/-! ## Reset -/

/-- Settles O32: the reset record meets the invariants for every capacity. -/
theorem resetMeetsTheInvariants : Obligations.ResetMeetsTheInvariants := fun k => reset_inv k.bytes

end Sys2Proof.Machine

/-! PROOFS. What changes what (spec/10_state.md R43, spec/60_exceptions.md R237, R245): the frames of the operand registers, the buffers
and the draws, and how the two calls end. -/

namespace Sys2Proof.Machine

/-! ## The operand registers (R43) -/

/-- What a command leaves of the operand registers: only a TOTP that succeeds writes COUNTER, and only LDTIME writes NOW. -/
theorem runCmd_operands (c : Cmd) (s : State) :
    (runCmd c s).otp.digits = s.otp.digits ∧ (runCmd c s).otp.window = s.otp.window ∧
    ((runCmd c s).otp.counter = s.otp.counter ∨ c = .totp ∧ (runCmd c s).otp.ok = true) ∧
    ((runCmd c s).otp.now = s.otp.now ∨ c = .ldtime) := by
  cases c with
  | hotp =>
    rcases doHotp_cases s.keyMax.bytes s.otp with ⟨E, -, hd⟩ | ⟨-, hd⟩ <;> rw [runCmd_hotp_otp, hd]
    all_goals exact ⟨rfl, rfl, .inl rfl, .inl rfl⟩
  | totp =>
    rcases doTotp_cases s.keyMax.bytes s.otp with ⟨E, -, hd⟩ | ⟨-, hd⟩ <;> rw [runCmd_totp_otp, hd]
    · exact ⟨rfl, rfl, .inl rfl, .inl rfl⟩
    · exact ⟨rfl, rfl, .inr ⟨rfl, rfl⟩, .inl rfl⟩
  | ldtime => exact ⟨rfl, rfl, .inl rfl, .inr rfl⟩
  | clear | illegal => exact ⟨rfl, rfl, .inl rfl, .inl rfl⟩

section keyPush
variable (k : Nat) (b : Byte) (S : OtpState)
@[simp] theorem keyPush_digits : (keyPush k b S).digits = S.digits := by unfold keyPush; split <;> rfl
@[simp] theorem keyPush_window : (keyPush k b S).window = S.window := by unfold keyPush; split <;> rfl
@[simp] theorem keyPush_counter : (keyPush k b S).counter = S.counter := by unfold keyPush; split <;> rfl
@[simp] theorem keyPush_now : (keyPush k b S).now = S.now := by unfold keyPush; split <;> rfl
end keyPush

/-- Settles O27: each of the ten things an instruction can do changes at most its own operand register. -/
theorem operandRegistersChangeOnlyByTheirWriters : Obligations.OperandRegistersChangeOnlyByTheirWriters := by
  intro i s t he
  rcases exec_cases i s with ⟨hc, v, h⟩ | ⟨hc, h⟩ | ⟨v, rfl, h⟩ | ⟨v, rfl, h⟩ | ⟨v, rfl, h⟩ | ⟨v, rfl, h⟩ | ⟨v, rfl, h⟩ |
    ⟨v, rfl, h⟩ | ⟨v, rfl, h⟩ | ⟨c, hc, h⟩ <;> obtain rfl := Host.Outcome.next.inj (h.symm.trans he)
  iterate 9 simp
  · obtain ⟨hdigits, hwindow, hcounter, hnow⟩ := runCmd_operands c s
    refine ⟨(absurd hdigits ·), (absurd hwindow ·), fun hne => .inr ?_, fun hne => .inr ?_⟩
    · obtain ⟨rfl, hok⟩ := hcounter.resolve_left hne
      exact ⟨hc, hok⟩
    · obtain rfl := hnow.resolve_left hne
      exact hc

/-! ## The buffers (R43) -/

/-- Settles O28: a push changes the key alone, and of the commands LDTIME and an illegal word leave both buffers. -/
theorem buffersChangeOnlyByTheirWriters : Obligations.BuffersChangeOnlyByTheirWriters := by
  intro i s t he
  rcases exec_cases i s with ⟨hc, v, h⟩ | ⟨hc, h⟩ | ⟨v, rfl, h⟩ | ⟨v, rfl, h⟩ | ⟨v, rfl, h⟩ | ⟨v, rfl, h⟩ | ⟨v, rfl, h⟩ |
    ⟨v, rfl, h⟩ | ⟨v, rfl, h⟩ | ⟨c, hc, h⟩ <;> obtain rfl := Host.Outcome.next.inj (h.symm.trans he)
  iterate 9 simp
  · cases c with
    | hotp => exact ⟨fun _ => .inr (.inl hc), fun _ => .inl hc⟩
    | totp => exact ⟨fun _ => .inr (.inr (.inl hc)), fun _ => .inr (.inl hc)⟩
    | clear => exact ⟨fun _ => .inr (.inr (.inr hc)), fun _ => .inr (.inr hc)⟩
    | ldtime | illegal => exact ⟨(absurd rfl ·), (absurd rfl ·)⟩

/-! ## The draws of time_in (R245) -/

/-- Settles O29: a draw is made by the LDTIME command alone (log 3). -/
theorem onlyLdtimeDrawsTheTime : Obligations.OnlyLdtimeDrawsTheTime := by
  intro i s t he
  rcases exec_cases i s with ⟨hc, v, h⟩ | ⟨hc, h⟩ | ⟨v, rfl, h⟩ | ⟨v, rfl, h⟩ | ⟨v, rfl, h⟩ | ⟨v, rfl, h⟩ | ⟨v, rfl, h⟩ |
    ⟨v, rfl, h⟩ | ⟨v, rfl, h⟩ | ⟨c, hc, h⟩ <;> obtain rfl := Host.Outcome.next.inj (h.symm.trans he)
  iterate 2 simp [Spec.Runs, hc]
  iterate 7 simp [Spec.Runs, commandOf]
  · cases c with
    | ldtime => exact ⟨fun _ => ⟨rfl, rfl⟩, (absurd hc ·)⟩
    | hotp | totp | clear | illegal => simp [Spec.Runs, hc, runCmd]

/-! ## How a call ends (R237) -/

/-- A failed call leaves no code. -/
theorem failCall_noCode (k : Nat) (E : Failure) (S : OtpState) : NoCode (failCall k E S) := by
  obtain ⟨hlen, hchars, hvalue⟩ := clearCode_noCode S
  exact ⟨hlen, hchars, hvalue⟩

/-- A call with its digits in range leaves a code. -/
theorem succeedCall_holdsCode (k : Nat) (c : DWord) {S : OtpState} (h1 : 1 ≤ S.digits.toNat) (h10 : S.digits.toNat ≤ 10) :
    HoldsCode (succeedCall k c S) := by
  obtain ⟨hpos, hmax, hvalue, hwidth, hchars⟩ :=
    storeCode_holdsCode S h1 h10 (hotpCode_lt_pow (keyOperand S) c _) (hotpCode_lt _ c _)
  exact ⟨hpos, hmax, hvalue, hwidth, hchars⟩

/-- Settles O31: the two ways HOTP and TOTP end, `succeedCall` and `failCall`. -/
theorem failedCallsHaveNoPartialEffect : Obligations.FailedCallsHaveNoPartialEffect := by
  rintro i s t (hc | hc) he <;> rw [eq_runCmd_of_exec hc he]
  · rw [runCmd_hotp_otp]
    rcases doHotp_cases s.keyMax.bytes s.otp with ⟨E, -, hd⟩ | ⟨hv, hd⟩ <;> rw [hd]
    · exact .inr ⟨rfl, rfl, failCall_noCode _ _ _, rfl, rfl, rfl, rfl⟩
    · obtain ⟨h1, h10, -⟩ := (validateHotp_eq_none_iff _).mp hv
      exact .inl ⟨rfl, rfl, succeedCall_holdsCode _ _ h1 h10, rfl⟩
  · rw [runCmd_totp_otp]
    rcases doTotp_cases s.keyMax.bytes s.otp with ⟨E, -, hd⟩ | ⟨hv, hd⟩ <;> rw [hd]
    · exact .inr ⟨rfl, rfl, failCall_noCode _ _ _, rfl, rfl, rfl, rfl⟩
    · obtain ⟨h1, h10, -⟩ := (validateTotp_eq_none_iff _).mp hv
      exact .inl ⟨rfl, rfl, succeedCall_holdsCode _ _ h1 h10, rfl⟩

end Sys2Proof.Machine

/-! PROOFS. The values that STATUS and the length registers read (spec/20_memory.md R64, R65, spec/40_host_access.md R128). -/

namespace Sys2Proof.Machine

/-! ## STATUS under the invariants (R31, R33) -/

/-- Without an error OK alone is open; with one OK is 0 and the code is one of three (R31). -/
theorem FlagInv.outcome {k : Nat} {S : OtpState} (h : FlagInv k S) :
    (S.err = false ∧ S.errCode = 0#4) ∨
    (S.ok = false ∧ S.err = true ∧ (S.errCode = 1#4 ∨ S.errCode = 3#4 ∨ S.errCode = 4#4)) := by
  cases herr : S.err with
  | false => exact .inl ⟨rfl, not_not.mp fun hne => by simp [h.codeIffErr.mp hne] at herr⟩
  | true =>
    have hok : S.ok = false := Bool.eq_false_iff.mpr fun hok => h.notBoth ⟨hok, herr⟩
    exact .inr ⟨hok, rfl, h.legalCode.resolve_left (h.codeIffErr.mpr herr)⟩

/-- The five outcomes with KEY_OVF 0 or 1 are the ten values. -/
theorem FlagInv.statusWord_mem {k : Nat} {S : OtpState} (h : FlagInv k S) : statusWord S ∈ Spec.statusValues := by
  unfold statusWord
  rcases h.outcome with ⟨herr, hcode⟩ | ⟨hok, herr, hcode | hcode | hcode⟩
  · rw [herr, hcode]
    cases S.keyOvf <;> cases S.ok <;> decide
  all_goals
    rw [hok, herr, hcode]
    cases S.keyOvf <;> decide

/-! ## STATUS after a command -/

/-- A success shows as bit 0, beside KEY_OVF. -/
theorem statusWord_setSuccess (S : OtpState) :
    statusWord (setSuccess S) = if S.keyOvf then 0x101#32 else 0x001#32 := by
  rw [statusWord, setSuccess_ok, setSuccess_err, setSuccess_errCode, setSuccess_keyOvf]
  cases S.keyOvf <;> rfl

/-- An illegal word keeps KEY_OVF, which STATUS shows beside the failure. -/
theorem statusWord_failIllegal (S : OtpState) :
    statusWord (failIllegal S) = if S.keyOvf then 0x132#32 else 0x032#32 := by
  rw [statusWord, failIllegal, setFailure_ok, setFailure_err, setFailure_errCode, setFailure_keyOvf]
  cases S.keyOvf <;> rfl

/-- After a failed call KEY_OVF is 0, so STATUS is the failure alone. -/
theorem statusWord_failCall (k : Nat) (E : Failure) (S : OtpState) :
    statusWord (failCall k E S) = (0#1 ++ E.code ++ 0#2 ++ 1#1 ++ 0#1 : BitVec 9).setWidth 32 := rfl

theorem statusWord_failCall_invalidArgument (k : Nat) (S : OtpState) :
    statusWord (failCall k .invalidArgument S) = 0x012#32 := by
  rw [statusWord_failCall]
  rfl

theorem statusWord_failCall_keyTooLong (k : Nat) (S : OtpState) : statusWord (failCall k .keyTooLong S) = 0x042#32 := by
  rw [statusWord_failCall]
  rfl

theorem statusWord_succeedCall (k : Nat) (c : DWord) (S : OtpState) : statusWord (succeedCall k c S) = 0x001#32 := by
  rw [succeedCall, statusWord_setSuccess, clearKey_keyOvf, if_neg (by decide)]

theorem statusWord_doClear (k : Nat) (S : OtpState) : statusWord (doClear k S) = 0x001#32 := by
  rw [doClear, statusWord_setSuccess, clearCode_keyOvf, clearKey_keyOvf, if_neg (by decide)]

theorem statusWord_doLdtime (t : DWord) (S : OtpState) :
    statusWord (doLdtime t S) = if S.keyOvf then 0x101#32 else 0x001#32 := statusWord_setSuccess { S with now := t }

theorem statusWord_doHotp_mem (k : Nat) (S : OtpState) :
    statusWord (doHotp k S) ∈ [0x001#32, 0x012#32, 0x042#32] := by
  rcases doHotp_cases k S with ⟨E, hv, hd⟩ | ⟨-, hd⟩ <;> rw [hd]
  · rcases validateHotp_eq_some hv with ⟨rfl, -⟩ | ⟨rfl, -⟩
    · simp [statusWord_failCall_invalidArgument]
    · simp [statusWord_failCall_keyTooLong]
  · simp [statusWord_succeedCall]

theorem statusWord_doTotp_mem (k : Nat) (S : OtpState) :
    statusWord (doTotp k S) ∈ [0x001#32, 0x012#32, 0x042#32] := by
  rcases doTotp_cases k S with ⟨E, hv, hd⟩ | ⟨-, hd⟩ <;> rw [hd]
  · rcases validateTotp_eq_some hv with ⟨rfl, -⟩ | ⟨rfl, -⟩
    · simp [statusWord_failCall_invalidArgument]
    · simp [statusWord_failCall_keyTooLong]
  · simp [statusWord_succeedCall]

/-- Settles O34: the ten values are those the flags' invariant leaves; after a command STATUS is that of its completion (log 7). -/
theorem statusHasOneOfTenValues : Obligations.StatusHasOneOfTenValues := by
  refine ⟨fun s hs => ⟨_, hs.flags.statusWord_mem, rfl⟩,
    fun i s t he => ⟨fun hc => ?_, fun hc => ?_, fun hc => ?_, fun hc => ?_⟩⟩
  · rcases hc with hc | hc <;> rw [eq_runCmd_of_exec hc he]
    · exact ⟨_, statusWord_doHotp_mem _ _, rfl⟩
    · exact ⟨_, statusWord_doTotp_mem _ _, rfl⟩
  all_goals rw [eq_runCmd_of_exec hc he, exec_rdStatus]
  · rw [runCmd_clear_otp, statusWord_doClear]
  · rw [runCmd_ldtime_otp, statusWord_doLdtime]
  · rw [runCmd_illegal_otp, statusWord_failIllegal]

/-! ## KEY_OVF in STATUS (R30, R127) -/

/-- Setting KEY_OVF adds its bit. -/
theorem statusWord_setKeyOvf {S : OtpState} (h : S.keyOvf = false) :
    statusWord { S with keyOvf := true } = statusWord S + 0x100#32 := by
  apply BitVec.eq_of_toNat_eq
  have hok := S.ok.toNat_le
  have herr := S.err.toNat_le
  have hcode := S.errCode.isLt
  rw [BitVec.toNat_add, statusWord_toNat, statusWord_toNat, h]
  simp only [Bool.toNat_true, Bool.toNat_false, BitVec.toNat_ofNat]
  omega

/-- Settles O35: the values 0x012 and 0x042 have bit 8 clear, and the push into the full buffer sets it (log 7). -/
theorem overflowAfterFailureShowsInStatus : Obligations.OverflowAfterFailureShowsInStatus := by
  intro s v x hfull hx hread
  obtain ⟨-, -, -, -, hovf, -⟩ := statusWord_fields s.otp
  have hword : statusWord s.otp = x := by
    have hanswer := congrArg State.response (Host.Outcome.next.inj ((exec_rdStatus s).symm.trans hread))
    exact Option.some.inj hanswer
  have hclear : s.otp.keyOvf = false := by
    rw [← hovf, hword]
    rcases hx with rfl | rfl <;> rfl
  refine ⟨_, exec_wrKeyPush v s, ?_⟩
  rw [exec_rdStatus, State.completeWrite_otp, keyPush_of_full _ hfull, statusWord_setKeyOvf hclear, hword]

/-! ## Widths (R64, R65) -/

theorem statusWord_lt (S : OtpState) : (statusWord S).toNat < 2 ^ 9 := by
  have hok := S.ok.toNat_le
  have herr := S.err.toNat_le
  have hcode := S.errCode.isLt
  have hovf := S.keyOvf.toNat_le
  rw [statusWord_toNat]
  omega

theorem CodeInv.codeLen_le {S : OtpState} (h : CodeInv S) : S.codeLen ≤ 10 := by
  rcases h with h | h
  · simp [h.len]
  · exact h.lenMax

theorem CodeInv.codeVal_lt {S : OtpState} (h : CodeInv S) : S.codeVal.toNat < 2 ^ 31 := by
  rcases h with h | h
  · simp [h.value]
  · exact h.width

/-- Settles O36: the invariants bound what the four registers hold. -/
theorem bitsAboveTheUsedWidthReadZero : Obligations.BitsAboveTheUsedWidthReadZero := by
  intro s hs
  have hkey := hs.key.fill
  obtain ⟨-, hmax, -⟩ := KeyMax_bytes_bounds s.keyMax
  have hcode := hs.code.codeLen_le
  have hkeyWord : (keyLenWord s.otp).toNat = s.otp.keyLen := Nat.mod_eq_of_lt (by omega)
  have hcodeWord : (codeLenWord s.otp).toNat = s.otp.codeLen := Nat.mod_eq_of_lt (by omega)
  exact ⟨⟨_, rfl, statusWord_lt s.otp⟩, ⟨_, rfl, hkeyWord, by omega⟩, ⟨_, rfl, hcodeWord, by omega⟩,
    ⟨_, rfl, hs.code.codeVal_lt⟩⟩

end Sys2Proof.Machine

/-! PROOFS. Two runs side by side (spec/10_state.md R36, R39): what the key bytes and the code buffer have no part in. -/

namespace Sys2Proof.Machine

/-! ## Commands, reads and writes -/

/-- Only the rows of reserved bits can be ill formed, and they are commands. -/
theorem wellFormed_of_commandOf_none {i : Instr} (h : commandOf i = none) : wellFormed i = true := by
  have hor : ((commandOf i).isSome || wellFormed i) = true := by cases i <;> rfl
  simpa [h] using hor

/-- Every instruction runs a command, reads a slot, or writes a slot other than CMD. -/
theorem commandOf_or_readRow_or_writeRow (i : Instr) :
    (∃ c, commandOf i = some c) ∨
    commandOf i = none ∧ ((∃ idx, i = readRow idx) ∨ ∃ idx v, idx ≠ 0#6 ∧ i = writeRow idx v) := by
  cases hc : commandOf i with
  | some c => exact .inl ⟨c, rfl⟩
  | none =>
    refine .inr ⟨rfl, ?_⟩
    have hi := decodeWord_encode (wellFormed_of_commandOf_none hc)
    cases hb : encode i with
    | command w =>
      rw [← hi, hb, decodeWord, commandOf_decodeCommand] at hc
      exact nomatch hc
    | transaction t =>
      cases ht : tWe t with
      | false => exact .inl ⟨tIdx t, by rw [← hi, hb, decodeWord_transaction_of_read ht]⟩
      | true =>
        rw [hb, decodeWord_transaction_of_write ht] at hi
        refine .inr ⟨tIdx t, tWdata t, fun hidx => ?_, hi.symm⟩
        rw [← hi, hidx] at hc
        exact nomatch hc

/-! ## The key bytes (R36) -/

/-- No slot shows the key bytes. -/
theorem regRead_sameButKey (idx : Idx) {S S' : OtpState} (h : Spec.SameButKey S S') :
    Spec.regRead idx S' = Spec.regRead idx S := by
  rw [h]
  rfl

/-- A write of a slot takes nothing from the key bytes but what it leaves in them. -/
theorem regWrite_sameButKey (k : Nat) (idx : Idx) (v : Word) {S S' : OtpState} (h : Spec.SameButKey S S') :
    Spec.SameButKey (Spec.regWrite k idx v S) (Spec.regWrite k idx v S') := by
  rw [h]
  simp only [Spec.regWrite, Spec.pushed]
  split_ifs <;> rfl

/-- LDTIME, CLEAR and an illegal word take nothing from the key bytes. -/
theorem runCmd_sameButKey {c : Cmd} {s : State} {S' : OtpState} (h : Spec.SameButKey s.otp S') (hhotp : c ≠ .hotp)
    (htotp : c ≠ .totp) : Spec.SameButKey (runCmd c s).otp (runCmd c { s with otp := S' }).otp := by
  rw [h]
  cases c with
  | hotp => exact absurd rfl hhotp
  | totp => exact absurd rfl htotp
  | ldtime | clear | illegal => rfl

/-- Settles O37: reads do not look at the key bytes, and what writes and the three commands leave of them is theirs alone. -/
theorem keyBytesShowOnlyThroughCodes : Obligations.KeyBytesShowOnlyThroughCodes := by
  intro i s S' hS hhotp htotp
  rcases commandOf_or_readRow_or_writeRow i with ⟨c, hc⟩ | ⟨hc, ⟨idx, rfl⟩ | ⟨idx, v, hidx, rfl⟩⟩
  · refine ⟨_, _, exec_of_commandOf hc s, exec_of_commandOf hc _, by simp, runCmd_sameButKey hS ?_ ?_⟩
    · rintro rfl
      exact hhotp hc
    · rintro rfl
      exact htotp hc
  · exact ⟨_, _, exec_readRow idx s, exec_readRow idx _, congrArg some (regRead_sameButKey idx hS), hS⟩
  · exact ⟨_, _, exec_writeRow hidx v s, exec_writeRow hidx v _, rfl, regWrite_sameButKey _ idx v hS⟩

/-! ## The code buffer (R39) -/

/-- The slots that show the code buffer are the ones whose reads the spec lists. -/
theorem readRow_mem_codeBufferReads :
    ∀ idx : Idx, idx = 10#6 ∨ idx = 11#6 ∨ 16 ≤ idx.toNat ∧ idx.toNat ≤ 25 → readRow idx ∈ Spec.codeBufferReads := by
  decide

/-- Every other slot reads the same whatever the code buffer holds. -/
theorem regRead_sameButCode {idx : Idx} {S S' : OtpState} (h : Spec.SameButCode S S')
    (hidx : readRow idx ∉ Spec.codeBufferReads) : Spec.regRead idx S' = Spec.regRead idx S := by
  have hslot := mt (readRow_mem_codeBufferReads idx) hidx
  simp only [not_or] at hslot
  obtain ⟨hlen, hval, hchar⟩ := hslot
  rw [h]
  simp only [Spec.regRead, hlen, hval, hchar, if_false, dif_neg, not_false_eq_true]

theorem regWrite_sameButCode (k : Nat) (idx : Idx) (v : Word) {S S' : OtpState} (h : Spec.SameButCode S S') :
    Spec.SameButCode (Spec.regWrite k idx v S) (Spec.regWrite k idx v S') := by
  rw [h]
  simp only [Spec.regWrite, Spec.pushed]
  split_ifs <;> rfl

/-- HOTP takes nothing from the old code. -/
theorem doHotp_sameButCode (k : Nat) {S S' : OtpState} (h : Spec.SameButCode S S') : doHotp k S' = doHotp k S := by
  have hv : validateHotp S' = validateHotp S := by rw [h]; rfl
  rw [doHotp, doHotp, hv, h]
  cases validateHotp S <;> rfl

/-- TOTP takes nothing from the old code. -/
theorem doTotp_sameButCode (k : Nat) {S S' : OtpState} (h : Spec.SameButCode S S') : doTotp k S' = doTotp k S := by
  have hv : validateTotp S' = validateTotp S := by rw [h]; rfl
  rw [doTotp, doTotp, hv, h]
  cases validateTotp S <;> rfl

/-- HOTP, TOTP and CLEAR leave one record whatever the code was. -/
theorem runCmd_eq_of_sameButCode {c : Cmd} {s : State} {S' : OtpState} (h : Spec.SameButCode s.otp S')
    (hc : c = .hotp ∨ c = .totp ∨ c = .clear) : (runCmd c { s with otp := S' }).otp = (runCmd c s).otp := by
  rcases hc with rfl | rfl | rfl
  · exact doHotp_sameButCode _ h
  · exact doTotp_sameButCode _ h
  · rw [h]
    rfl

/-- No command lets the code buffer into another field. -/
theorem runCmd_sameButCode (c : Cmd) {s : State} {S' : OtpState} (h : Spec.SameButCode s.otp S') :
    Spec.SameButCode (runCmd c s).otp (runCmd c { s with otp := S' }).otp := by
  cases c with
  | hotp => rw [runCmd_eq_of_sameButCode h (.inl rfl)]; rfl
  | totp => rw [runCmd_eq_of_sameButCode h (.inr (.inl rfl))]; rfl
  | clear => rw [runCmd_eq_of_sameButCode h (.inr (.inr rfl))]; rfl
  | ldtime | illegal => rw [h]; rfl

/-- Settles O38: only its own reads look at the code buffer; what HOTP, TOTP and CLEAR leave replaces it. -/
theorem codeNeverFeedsAComputation : Obligations.CodeNeverFeedsAComputation := by
  intro i s S' hS
  rcases commandOf_or_readRow_or_writeRow i with ⟨c, hc⟩ | ⟨hc, ⟨idx, rfl⟩ | ⟨idx, v, hidx, rfl⟩⟩
  · refine ⟨_, _, exec_of_commandOf hc s, exec_of_commandOf hc _, runCmd_sameButCode c hS, fun hrun => ?_, fun _ => by simp⟩
    exact runCmd_eq_of_sameButCode hS (by simpa [Spec.Runs, hc] using hrun)
  · refine ⟨_, _, exec_readRow idx s, exec_readRow idx _, hS, fun hrun => ?_, fun hidx => ?_⟩
    · simp [Spec.Runs, hc] at hrun
    · exact congrArg some (regRead_sameButCode hS hidx)
  · refine ⟨_, _, exec_writeRow hidx v s, exec_writeRow hidx v _, regWrite_sameButCode _ idx v hS, fun hrun => ?_,
      fun _ => rfl⟩
    simp [Spec.Runs, hc] at hrun

/-! ## What a code depends on (R180, R201, R206) -/

/-- A record that holds a code has decimal characters in its first CODE_LEN places and nowhere else. -/
theorem HoldsCode.lt_iff_isDecimalChar {S : OtpState} (h : HoldsCode S) (i : Fin 10) :
    i.val < S.codeLen ↔ Spec.IsDecimalChar S.code[i] := by
  rw [h.chars i]
  by_cases hi : i.val < S.codeLen
  · rw [if_pos hi]
    exact iff_of_true hi (chr_isDecimalChar (Nat.mod_lt _ (by decide)))
  · rw [if_neg hi]
    exact iff_of_false hi (by simp [Spec.IsDecimalChar])

/-- HOTP's validation reads DIGITS and KEY_OVF alone (R178). -/
theorem validateHotp_congr {S S' : OtpState} (hdigits : S'.digits = S.digits) (hovf : S'.keyOvf = S.keyOvf) :
    validateHotp S' = validateHotp S := by
  rw [validateHotp, validateHotp, digitsOperand, digitsOperand, hdigits, hovf]

/-- Settles O39: the failure, or the code, is a function of the four, and a code has decimal characters in its places. -/
theorem hotpIsDeterminedByKeyCounterDigits : Obligations.HotpIsDeterminedByKeyCounterDigits := by
  intro s s' hkey hcounter hdigits hovf
  refine ⟨_, _, exec_hotp s, exec_hotp s', ?_⟩
  have hv := validateHotp_congr hdigits hovf
  simp only [Spec.written]
  cases h : validateHotp s.otp with
  | some E =>
    rw [h] at hv
    rw [doHotp_of_fails _ h, doHotp_of_fails _ hv]
    exact ⟨rfl, rfl, rfl, rfl, rfl, rfl, nofun⟩
  | none =>
    obtain ⟨h1, h10, -⟩ := (validateHotp_eq_none_iff _).mp h
    have hcode := succeedCall_holdsCode s.keyMax.bytes s.otp.counter h1 h10
    rw [h] at hv
    simp only [doHotp, h, hv, hcounter]
    simp only [succeedCall, digitsOperand, hkey, hdigits]
    exact ⟨rfl, rfl, rfl, rfl, rfl, rfl, fun _ => ⟨rfl, hcode.lt_iff_isDecimalChar⟩⟩

/-- Settles O40: the counter is the quotient, and NOW has no other part in a call that passes. -/
theorem totpIsConstantInABucket : Obligations.TotpIsConstantInABucket := by
  intro s now' hpass hnow hbucket
  have ⟨h1, h10, hw, hn, hovf⟩ := hpass
  have hpass' : Spec.TotpPasses { s.otp with now := now' } := ⟨h1, h10, hw, hnow, hovf⟩
  have hstep : Spec.timeStep { s.otp with now := now' } = Spec.timeStep s.otp := by
    apply BitVec.eq_of_toNat_eq
    rw [timeStep_toNat (msb_of_toInt_nonneg hnow), timeStep_toNat (msb_of_toInt_nonneg hn)]
    exact hbucket
  refine ⟨_, _, exec_totp _, exec_totp _, ?_, ?_⟩
  · simp only [doTotp_of_passes _ hpass', doTotp_of_passes _ hpass, hstep]
    rfl
  · exact (doTotp_ok_iff _ _).mpr hpass

/-- HOTP on the key of a TOTP that passed computes the code of the counter TOTP left, which is TOTP's own. -/
theorem doHotp_doTotp_of_passes (k : Nat) {S : OtpState} (h : Spec.TotpPasses S) :
    doHotp k { doTotp k S with key := S.key, keyLen := S.keyLen } = doTotp k S := by
  have ⟨h1, h10, _⟩ := h
  rw [doTotp_of_passes k h]
  exact doHotp_of_passes k ⟨h1, h10, rfl⟩

/-- Settles O41: the state beside the record is the same, since both commands return nothing. -/
theorem hotpAfterTotpGivesTheSameCode : Obligations.HotpAfterTotpGivesTheSameCode := by
  intro s t hpass he
  obtain rfl := Host.Outcome.next.inj ((exec_totp s).symm.trans he)
  exact congrArg (fun S => Host.Outcome.next (Spec.written s S)) (doHotp_doTotp_of_passes _ hpass)

end Sys2Proof.Machine

/-! PROOFS. Keys of the MAC and buckets of the scaler (spec/41_encoder_hmac_sha1.md R151 to R153, spec/43_totp.md R200, R201). -/

namespace Sys2Proof.Machine

/-! ## The key block (R151, R153, R267) -/

/-- Settles O52: digest and MAC are both the bytes of a hash value. -/
theorem digestsHaveTwentyBytes : Obligations.DigestsHaveTwentyBytes := ⟨sha1_length, fun _ _ => sha1_length _⟩

/-- The MAC takes from the key its block alone (R152). -/
theorem hmacSha1_congr {k k' : List Byte} (h : blockKey k = blockKey k') (text : List Byte) :
    hmacSha1 k text = hmacSha1 k' text := by
  rw [hmacSha1, hmacSha1, h]

theorem blockKey_of_short {k : List Byte} (h : k.length ≤ 64) : blockKey k = k ++ List.replicate (64 - k.length) 0#8 := by
  rw [blockKey, shortKey_of_short h]

/-- Zeros at the end of a key that fits in a block are zeros of its padding. -/
theorem blockKey_append_zeros {k : List Byte} {n : Nat} (h : k.length + n ≤ 64) :
    blockKey (k ++ List.replicate n 0#8) = blockKey k := by
  have hpad : n + (64 - (k ++ List.replicate n 0#8).length) = 64 - k.length := by
    rw [List.length_append, List.length_replicate]
    omega
  rw [blockKey_of_short (by simpa using h), blockKey_of_short (by omega), List.append_assoc, List.replicate_append_replicate,
    hpad]

/-- A key longer than a block has the block of its digest, which is short enough to be used as it is. -/
theorem blockKey_sha1 {k : List Byte} (h : 64 < k.length) : blockKey (sha1 k) = blockKey k := by
  have hdigest : shortKey (sha1 k) = shortKey k := by
    rw [shortKey_of_long h, shortKey_of_short (by simp)]
  rw [blockKey, blockKey, hdigest]

/-- Settles O54: both keys have one block. -/
theorem trailingZeroKeyBytesDoNotCount : Obligations.TrailingZeroKeyBytesDoNotCount :=
  fun _ text _ h => hmacSha1_congr (blockKey_append_zeros h) text

/-- Settles O55: both keys have one block. -/
theorem longKeyMayBeReplacedByItsDigest : Obligations.LongKeyMayBeReplacedByItsDigest :=
  fun _ text h => hmacSha1_congr (blockKey_sha1 h) text

/-! ## The scaler (R200, R201) -/

/-- A bucket is the `w` times from a multiple of the window on. -/
theorem tscale_eq_iff {now w q : Nat} (hw : 1 ≤ w) : tscale now w = q ↔ q * w ≤ now ∧ now ≤ q * w + w - 1 := by
  rw [tscale, Nat.div_eq_iff hw, Nat.mul_comm]

/-- Settles O60: the scaler is floor division. -/
theorem scalerIsConstantOnBuckets : Obligations.ScalerIsConstantOnBuckets := fun now _ hw =>
  ⟨fun _ => tscale_eq_iff hw, Nat.add_div_right now hw, Nat.div_one now, Nat.div_eq_of_lt⟩

end Sys2Proof.Machine

/-! PROOFS. Runs of the host's events (spec/70_reset_and_hazards.md R273): each step serves one. -/

namespace Sys2Proof.Machine

/-- A run goes on from the state its first step leaves. -/
theorem run_succ {s t : State} (h : step s = .next t) (n : Nat) :
    Host.Core.run core (n + 1) s = Host.Core.run core n t := by
  simp [Host.Core.run, core, h]

/-- A step serves the event that comes first, and leaves the others and the parameter. -/
theorem step_serves {s : State} {e : HostEvent} {rest : List HostEvent} (h : s.inputs = e :: rest) :
    ∃ t, step s = .next t ∧ t.inputs = rest ∧ t.keyMax = s.keyMax := by
  cases e with
  | reset => exact ⟨_, step_of_reset h, rfl, rfl⟩
  | word b =>
    obtain ⟨t, he, hmax, hin⟩ := exec_completes (decodeWord b) { s with inputs := rest }
    exact ⟨t, (step_of_word h).trans he, hin, hmax⟩

/-- As many steps as events wait serve them all. -/
theorem run_serves_all {events : List HostEvent} {s : State} (h : s.inputs = events) :
    ∃ t : State, Host.Core.run core events.length s = .next t ∧ t.inputs = [] ∧ t.keyMax = s.keyMax := by
  induction events generalizing s with
  | nil => exact ⟨s, rfl, h, rfl⟩
  | cons e rest ih =>
    obtain ⟨t, hstep, hin, hmax⟩ := step_serves h
    obtain ⟨u, hrun, hempty, hmax'⟩ := ih hin
    exact ⟨u, (run_succ hstep _).trans hrun, hempty, hmax'.trans hmax⟩

/-- Settles O10: the queue of log 2 is served one event a step. -/
theorem everyFiniteRunEnds : Obligations.EveryFiniteRunEnds := fun _ => run_serves_all rfl

end Sys2Proof.Machine

/-! PROOFS. Sequences of the host's instructions (spec/30_encoding.md R101 to R103): the state they leave, whichever way they are brought
to the core, the key pushes, and the order of the writes of a call. -/

namespace Sys2Proof.Machine

/-! ## The state an instruction leaves -/

/-- The state an instruction leaves; every instruction completes (`exec_eq_next_after`), so the other two arms are never taken. -/
def State.after (s : State) (i : Instr) : State :=
  match exec i s with
  | .next t => t
  | .fault _ | .refused _ => s

theorem after_of_exec {i : Instr} {s t : State} (h : exec i s = .next t) : s.after i = t := by
  rw [State.after, h]

theorem exec_eq_next_after (i : Instr) (s : State) : exec i s = .next (s.after i) := by
  obtain ⟨t, he, -⟩ := exec_completes i s
  rw [he, after_of_exec he]

/-- What an instruction does has nothing to do with the events that wait. -/
theorem after_withInputs (i : Instr) (s : State) (events : List HostEvent) :
    State.after { s with inputs := events } i = { s.after i with inputs := events } := by
  rcases commandOf_or_readRow_or_writeRow i with ⟨c, hc⟩ | ⟨-, ⟨idx, rfl⟩ | ⟨idx, v, hidx, rfl⟩⟩
  · rw [after_of_exec (exec_of_commandOf hc _), after_of_exec (exec_of_commandOf hc _)]
    cases c <;> rfl
  · rw [after_of_exec (exec_readRow idx _), after_of_exec (exec_readRow idx _)]
    rfl
  · rw [after_of_exec (exec_writeRow hidx v _), after_of_exec (exec_writeRow hidx v _)]
    rfl

/-- Running a queue of instructions leaves the state they leave one after the other, with the other events still waiting (log 2). -/
theorem run_hostEvents {is : List Instr} (hwf : ∀ i ∈ is, wellFormed i = true) (s : State) (rest : List HostEvent) :
    Host.Core.run core is.length { s with inputs := hostEvents is ++ rest } =
      .next { is.foldl State.after s with inputs := rest } := by
  induction is generalizing s with
  | nil => rfl
  | cons i is ih =>
    obtain ⟨hi, his⟩ := List.forall_mem_cons.mp hwf
    rw [run_hostEvents_cons (decodeWord_encode hi) (exec_eq_next_after i _), after_withInputs, ih his, List.foldl_cons]

/-- An instruction that is a row of the table and returns nothing to the host. -/
structure Silent (i : Instr) : Prop where
  wellFormed : wellFormed i = true
  quiet : ∀ s : State, (s.after i).response = none

/-- Issuing silent instructions leaves the same state as running them, and returns no word. -/
theorem issue_of_silent {is : List Instr} (h : ∀ i ∈ is, Silent i) (s : State) :
    issue is s = .next (is.foldl State.after s, []) := by
  induction is generalizing s with
  | nil => rfl
  | cons i is ih =>
    obtain ⟨hi, his⟩ := List.forall_mem_cons.mp h
    rw [issue_cons (decodeWord_encode hi.wellFormed) (exec_eq_next_after i s), ih his, andThen_next, hi.quiet]
    rfl

/-! ## Key pushes (R36, R102, R127) -/

section keyPush
variable {k : Nat} (b : Byte) {S : OtpState}

theorem keyPush_key_length : (keyPush k b S).key.length = S.key.length := by
  unfold keyPush
  split
  · exact List.length_set
  · rfl

theorem keyPush_keyLen_of_room (h : S.keyLen < k) : (keyPush k b S).keyLen = S.keyLen + 1 := by rw [keyPush_of_room b h]

theorem keyPush_keyOvf_of_room (h : S.keyLen < k) : (keyPush k b S).keyOvf = S.keyOvf := by rw [keyPush_of_room b h]

theorem keyPush_keyOvf_of_full (h : k ≤ S.keyLen) : (keyPush k b S).keyOvf = true := by rw [keyPush_of_full b h]

/-- KEY_OVF stays set. -/
theorem keyPush_keyOvf_of_set (h : S.keyOvf = true) : (keyPush k b S).keyOvf = true := by
  unfold keyPush
  split
  · exact h
  · rfl

/-- A push changes the key buffer alone. -/
theorem keyPush_frame : keyPush k b S =
    { S with key := (keyPush k b S).key, keyLen := (keyPush k b S).keyLen, keyOvf := (keyPush k b S).keyOvf } := by
  unfold keyPush
  split <;> rfl

/-- A push may come before or after what leaves the key buffer alone and takes nothing from it. -/
theorem keyPush_comm {f : OtpState → OtpState} (hlen : (f S).keyLen = S.keyLen)
    (hroom : { f S with key := (f S).key.set (f S).keyLen b, keyLen := (f S).keyLen + 1 } =
      f { S with key := S.key.set S.keyLen b, keyLen := S.keyLen + 1 })
    (hfull : { f S with keyOvf := true } = f { S with keyOvf := true }) : keyPush k b (f S) = f (keyPush k b S) := by
  rcases Nat.lt_or_ge S.keyLen k with h | h
  · rw [keyPush_of_room b h, keyPush_of_room b (hlen.trans_lt h), hroom]
  · rw [keyPush_of_full b h, keyPush_of_full b (h.trans_eq hlen.symm), hfull]

end keyPush

/-- The record after a push of each byte of `key` in order. -/
def pushAll (k : Nat) (key : List Byte) (S : OtpState) : OtpState := key.foldl (fun S b => keyPush k b S) S

theorem pushAll_cons (k : Nat) (b : Byte) (key : List Byte) (S : OtpState) :
    pushAll k (b :: key) S = pushAll k key (keyPush k b S) := rfl

/-- Pushes change the key buffer alone. -/
theorem pushAll_frame (k : Nat) (key : List Byte) (S : OtpState) : pushAll k key S =
    { S with key := (pushAll k key S).key, keyLen := (pushAll k key S).keyLen, keyOvf := (pushAll k key S).keyOvf } := by
  induction key generalizing S with
  | nil => rfl
  | cons b key ih => rw [pushAll_cons, ih, keyPush_frame b]

/-- Bytes that fit are appended in order. -/
theorem pushAll_of_fits {k : Nat} {key : List Byte} {S : OtpState} (hsize : S.key.length = k)
    (hfit : S.keyLen + key.length ≤ k) :
    keyOperand (pushAll k key S) = keyOperand S ++ key ∧ (pushAll k key S).keyLen = S.keyLen + key.length ∧
    (pushAll k key S).keyOvf = S.keyOvf := by
  induction key generalizing S with
  | nil => exact ⟨(List.append_nil _).symm, rfl, rfl⟩
  | cons b key ih =>
    rw [List.length_cons] at hfit ⊢
    have hroom : S.keyLen < k := by omega
    have hpush := keyPush_keyLen_of_room b hroom
    obtain ⟨hkey, hlen, hovf⟩ := ih (S := keyPush k b S) ((keyPush_key_length b).trans hsize) (by omega)
    rw [keyOperand_keyPush b hsize hroom, List.append_assoc] at hkey
    exact ⟨hkey, by rw [pushAll_cons]; omega, hovf.trans (keyPush_keyOvf_of_room b hroom)⟩

/-- KEY_OVF stays set. -/
theorem pushAll_of_keyOvf {k : Nat} (key : List Byte) {S : OtpState} (h : S.keyOvf = true) :
    (pushAll k key S).keyOvf = true := by
  induction key generalizing S with
  | nil => exact h
  | cons b key ih => exact ih (keyPush_keyOvf_of_set b h)

/-- More bytes than there is room for set KEY_OVF. -/
theorem pushAll_of_over {k : Nat} {key : List Byte} {S : OtpState} (hfill : S.keyLen ≤ k)
    (hover : k < S.keyLen + key.length) : (pushAll k key S).keyOvf = true := by
  induction key generalizing S with
  | nil => exact absurd hover (Nat.not_lt.mpr hfill)
  | cons b key ih =>
    rw [List.length_cons] at hover
    rcases Nat.lt_or_ge S.keyLen k with hroom | hfull
    · have hpush := keyPush_keyLen_of_room b hroom
      exact ih (S := keyPush k b S) (by omega) (by omega)
    · exact pushAll_of_keyOvf key (keyPush_keyOvf_of_full b hfull)

theorem after_wrKeyPush (v : Word) (s : State) :
    s.after (.wrKeyPush v) = s.completeWrite (keyPush s.keyMax.bytes (keyByte v) s.otp) := rfl

/-- `KEYHEX` pushes its bytes, and beside the record it changes at most what was returned last. -/
theorem foldl_after_keyHex (key : List Byte) (s : State) : ∃ r : Option Word,
    (keyHex key).foldl State.after s = { s with otp := pushAll s.keyMax.bytes key s.otp, response := r } := by
  induction key generalizing s with
  | nil => exact ⟨s.response, rfl⟩
  | cons b key ih =>
    obtain ⟨r, hr⟩ := ih (s.after (.wrKeyPush (b.setWidth 32)))
    refine ⟨r, ?_⟩
    rw [keyHex_cons, List.foldl_cons, hr, after_wrKeyPush, keyByte_setWidth]
    rfl

theorem silent_of_mem_keyHex {i : Instr} {key : List Byte} (h : i ∈ keyHex key) : Silent i := by
  obtain ⟨b, -, rfl⟩ := List.mem_map.mp h
  exact ⟨rfl, fun _ => rfl⟩

/-- Settles O44: the pushes run one by one (log 2), and bytes that fit are appended. -/
theorem keyPushesBuildTheKey : Obligations.KeyPushesBuildTheKey := by
  intro s key rest hinv hfit
  obtain ⟨r, hr⟩ := foldl_after_keyHex key s
  obtain ⟨hkey, hlen, hovf⟩ := pushAll_of_fits hinv.key.size hfit
  have hrun := run_hostEvents (is := keyHex key) (fun i hi => (silent_of_mem_keyHex hi).wellFormed) s rest
  rw [keyHex_length, hr] at hrun
  refine ⟨_, hrun, rfl, hkey, hlen, rfl, ?_⟩
  have hframe := pushAll_frame s.keyMax.bytes key s.otp
  rwa [hovf] at hframe

/-! ## The writes of a call in any order (R103) -/

/-- Two instructions whose order does not matter. -/
def Commute (i j : Instr) : Prop := ∀ s : State, (s.after i).after j = (s.after j).after i

/-- An instruction that commutes with each of a list may come before them or after. -/
theorem foldl_after_of_commute {i : Instr} {is : List Instr} (h : ∀ j ∈ is, Commute i j) (s : State) :
    is.foldl State.after (s.after i) = (is.foldl State.after s).after i := by
  induction is generalizing s with
  | nil => rfl
  | cons j is ih =>
    obtain ⟨hj, his⟩ := List.forall_mem_cons.mp h
    rw [List.foldl_cons, List.foldl_cons, hj, ih his]

/-- The instructions that load an operand register in a library call: what R103 lists beside the key bytes. -/
inductive LoadsOperand : Instr → Prop
  | digits (v : Word) : LoadsOperand (.wrDigits v)
  | window (v : Word) : LoadsOperand (.wrWindow v)
  | counterLo (v : Word) : LoadsOperand (.wrCounterLo v)
  | counterHi (v : Word) : LoadsOperand (.wrCounterHi v)
  | nowLo (v : Word) : LoadsOperand (.wrNowLo v)
  | nowHi (v : Word) : LoadsOperand (.wrNowHi v)
  | ldtime : LoadsOperand .ldtime

theorem LoadsOperand.silent {i : Instr} (h : LoadsOperand i) : Silent i := by
  cases h
  all_goals exact ⟨rfl, fun _ => rfl⟩

theorem LoadsOperand.not_isKeyPush {i : Instr} (h : LoadsOperand i) : isKeyPush i = false := by
  cases h
  all_goals rfl

/-- Loading an operand register and pushing a key byte may come in either order. -/
theorem LoadsOperand.commute_wrKeyPush {i : Instr} (h : LoadsOperand i) (v : Word) : Commute i (.wrKeyPush v) := by
  intro s
  cases h with
  | digits d => exact congrArg s.completeWrite (keyPush_comm _ (f := setDigits d) rfl rfl rfl)
  | window w => exact congrArg s.completeWrite (keyPush_comm _ (f := setWindow w) rfl rfl rfl)
  | counterLo x => exact congrArg s.completeWrite (keyPush_comm _ (f := setCounterLo x) rfl rfl rfl)
  | counterHi x => exact congrArg s.completeWrite (keyPush_comm _ (f := setCounterHi x) rfl rfl rfl)
  | nowLo x => exact congrArg s.completeWrite (keyPush_comm _ (f := setNowLo x) rfl rfl rfl)
  | nowHi x => exact congrArg s.completeWrite (keyPush_comm _ (f := setNowHi x) rfl rfl rfl)
  | ldtime => exact congrArg s.afterDraw.completeWrite (keyPush_comm _ (f := doLdtime s.drawnTime) rfl rfl rfl)

theorem exists_eq_wrKeyPush {i : Instr} (h : isKeyPush i = true) : ∃ v, i = .wrKeyPush v := by
  unfold isKeyPush at h
  split at h
  · exact ⟨_, rfl⟩
  · exact nomatch h

/-- Key pushes may be issued first and the loads of operands after them. -/
theorem foldl_after_pushes_first {is : List Instr} (h : ∀ i ∈ is, isKeyPush i = false → LoadsOperand i) (s : State) :
    is.foldl State.after s = (is.filter isKeyPush ++ is.filter (!isKeyPush ·)).foldl State.after s := by
  induction is generalizing s with
  | nil => rfl
  | cons i is ih =>
    obtain ⟨hi, his⟩ := List.forall_mem_cons.mp h
    rw [List.foldl_cons, ih his]
    cases hp : isKeyPush i with
    | true => simp [hp]
    | false =>
      have hcomm : ∀ j ∈ is.filter isKeyPush, Commute i j := fun j hj => by
        obtain ⟨v, rfl⟩ := exists_eq_wrKeyPush (List.mem_filter.mp hj).2
        exact (hi hp).commute_wrKeyPush v
      simp [hp, foldl_after_of_commute hcomm]

end Sys2Proof.Machine

namespace Sys2Proof.Machine

theorem isKeyPush_of_mem_keyHex {i : Instr} {key : List Byte} (h : i ∈ keyHex key) : isKeyPush i = true := by
  obtain ⟨b, -, rfl⟩ := List.mem_map.mp h
  rfl

/-- The writes of a call may come in any order when its loads commute with each other: the pushes keep their order (R103). -/
theorem foldl_after_of_inAnyOrder {order loads : List Instr} {key : List Byte} (h : InAnyOrder order (keyHex key ++ loads))
    (hloads : ∀ i ∈ loads, LoadsOperand i) (hcomm : loads.Pairwise Commute) (s : State) :
    order.foldl State.after s = (keyHex key ++ loads).foldl State.after s := by
  obtain ⟨hperm, hpush⟩ := h
  have hnone : loads.filter isKeyPush = [] := List.filter_eq_nil_iff.mpr fun i hi => by simp [(hloads i hi).not_isKeyPush]
  have hall : loads.filter (!isKeyPush ·) = loads := List.filter_eq_self.mpr fun i hi => by simp [(hloads i hi).not_isKeyPush]
  have hkey : (keyHex key).filter (!isKeyPush ·) = [] :=
    List.filter_eq_nil_iff.mpr fun i hi => by simp [isKeyPush_of_mem_keyHex hi]
  have hrest := hperm.filter (!isKeyPush ·)
  rw [List.filter_append, hkey, hall, List.nil_append] at hrest
  rw [List.filter_append, filter_isKeyPush_keyHex, hnone, List.append_nil] at hpush
  have horder : ∀ i ∈ order, isKeyPush i = false → LoadsOperand i := fun i hi hp =>
    hloads i (hrest.subset (List.mem_filter.mpr ⟨hi, by simp [hp]⟩))
  rw [foldl_after_pushes_first horder, hpush, List.foldl_append, List.foldl_append]
  have : Std.Symm Commute := ⟨fun _ _ h s => (h s).symm⟩
  have hpairs := hcomm.forall_of_forall fun _ _ _ => rfl
  exact (hrest.symm.foldl_eq' (fun _ hi _ hj s => hpairs hi hj s) _).symm

/-! ## What a call loads (R103) -/

/-- What a HOTP call loads beside the key. -/
def hotpLoads (c : DWord) (d : Word) : List Instr := setCtr c ++ [.wrDigits d]

/-- What a TOTP call loads beside the key. -/
def totpLoads (d w : Word) (now : TimeSource) : List Instr := [.wrDigits d, .wrWindow w] ++ now.writes

theorem hotpWrites_eq (key : List Byte) (c : DWord) (d : Word) : hotpWrites key c d = keyHex key ++ hotpLoads c d :=
  List.append_assoc _ _ _

theorem totpWrites_eq (key : List Byte) (d w : Word) (now : TimeSource) :
    totpWrites key d w now = keyHex key ++ totpLoads d w now := List.append_assoc _ _ _

theorem loadsOperand_of_mem_hotpLoads {i : Instr} {c : DWord} {d : Word} (h : i ∈ hotpLoads c d) : LoadsOperand i := by
  fin_cases h
  · exact .counterLo _
  · exact .counterHi _
  · exact .digits _

theorem loadsOperand_of_mem_totpLoads {i : Instr} {d w : Word} {now : TimeSource} (h : i ∈ totpLoads d w now) :
    LoadsOperand i := by
  cases now with
  | fixed n =>
    fin_cases h
    · exact .digits _
    · exact .window _
    · exact .nowLo _
    · exact .nowHi _
  | current =>
    fin_cases h
    · exact .digits _
    · exact .window _
    · exact .ldtime

/-- The loads of a HOTP call write different registers, or different halves of one. -/
theorem hotpLoads_commute (c : DWord) (d : Word) : (hotpLoads c d).Pairwise Commute := by
  have hhalves : Commute (.wrCounterLo (loHalf c)) (.wrCounterHi (hiHalf c)) := fun s =>
    congrArg s.completeWrite (setCounterLo_setCounterHi_comm _ _ _).symm
  refine .cons ?_ (List.pairwise_pair.mpr fun _ => rfl)
  intro j hj
  fin_cases hj
  · exact hhalves
  · exact fun _ => rfl

/-- The loads of a TOTP call write different registers, or different halves of one. -/
theorem totpLoads_commute (d w : Word) (now : TimeSource) : (totpLoads d w now).Pairwise Commute := by
  cases now with
  | fixed n =>
    have hhalves : Commute (.wrNowLo (loHalf (BitVec.ofInt 64 n))) (.wrNowHi (hiHalf (BitVec.ofInt 64 n))) := fun s =>
      congrArg s.completeWrite (setNowLo_setNowHi_comm _ _ _).symm
    refine .cons ?_ (.cons ?_ (List.pairwise_pair.mpr hhalves)) <;> intro j hj <;> fin_cases hj
    all_goals exact fun _ => rfl
  | current =>
    refine .cons ?_ (List.pairwise_pair.mpr fun _ => rfl)
    intro j hj
    fin_cases hj <;> exact fun _ => rfl

/-! ## The state before the command of a call -/

/-- A HOTP call's loads leave COUNTER and DIGITS as given. -/
theorem foldl_after_hotpLoads (c : DWord) (d : Word) (s : State) : (hotpLoads c d).foldl State.after s =
    s.completeWrite { s.otp with counter := c, digits := d } :=
  congrArg (fun S => s.completeWrite (setDigits d S)) (setCounterHi_setCounterLo c s.otp)

/-- The loads of a TOTP call with a fixed time leave DIGITS, WINDOW and NOW as given. -/
theorem foldl_after_totpLoads_fixed (d w : Word) (n : Int) (s : State) : (totpLoads d w (.fixed n)).foldl State.after s =
    s.completeWrite { s.otp with digits := d, window := w, now := BitVec.ofInt 64 n } :=
  congrArg s.completeWrite (setNowHi_setNowLo (BitVec.ofInt 64 n) (setWindow w (setDigits d s.otp)))

/-- The loads of a TOTP call with the current time leave DIGITS and WINDOW as given and the drawn time in NOW. -/
theorem foldl_after_totpLoads_current (d w : Word) (s : State) : (totpLoads d w .current).foldl State.after s =
    s.afterDraw.completeWrite (doLdtime s.drawnTime { s.otp with digits := d, window := w }) := rfl

/-- The key buffer holds `key`, or has lost a byte of it. -/
structure KeyLoaded (k : Nat) (key : List Byte) (S : OtpState) : Prop where
  fits : key.length ≤ k → keyOperand S = key ∧ S.keyOvf = false
  lost : k < key.length → S.keyOvf = true

/-- Pushes into an empty buffer load the key. -/
theorem pushAll_keyLoaded {k : Nat} {S : OtpState} (hsize : S.key.length = k) (hlen : S.keyLen = 0) (hovf : S.keyOvf = false)
    (key : List Byte) : KeyLoaded k key (pushAll k key S) where
  fits h := by
    obtain ⟨hkey, -, hovf'⟩ := pushAll_of_fits hsize (by omega : S.keyLen + key.length ≤ k)
    have hempty : keyOperand S = [] := by rw [keyOperand, hlen, List.take_zero]
    exact ⟨by rw [hkey, hempty, List.nil_append], hovf'.trans hovf⟩
  lost h := pushAll_of_over (by omega) (by omega)

/-- The start of a call up to its key: CLEAR where a partial key may be loaded, then the pushes. -/
def keyStart (partialKey : Bool) (key : List Byte) (s : State) : State :=
  (keyHex key).foldl State.after (if partialKey then s.after .clear else s)

/-- A call runs its start, its loads and its command, whatever the order of its writes. -/
theorem foldl_after_callWith {order loads : List Instr} {key : List Byte} (h : InAnyOrder order (keyHex key ++ loads))
    (hloads : ∀ i ∈ loads, LoadsOperand i) (hcomm : loads.Pairwise Commute) (partialKey : Bool) (command : Instr) (s : State) :
    (callWith partialKey order command).foldl State.after s =
      (loads.foldl State.after (keyStart partialKey key s)).after command := by
  rw [callWith, List.foldl_append, List.foldl_append, foldl_after_of_inAnyOrder h hloads hcomm, List.foldl_append, keyStart]
  cases partialKey <;> rfl

/-- After the start of a call the key is loaded, and what the call needs besides is as before. -/
structure Started (key : List Byte) (s t : State) : Prop where
  keyMax : t.keyMax = s.keyMax
  window : t.otp.window = s.otp.window
  now : t.otp.now = s.otp.now
  drawn : t.drawnTime = s.drawnTime
  key : KeyLoaded s.keyMax.bytes key t.otp

/-- The pushes start a call from a state with an empty key buffer. -/
theorem started_of_empty {s : State} (hsize : s.otp.key.length = s.keyMax.bytes) (hlen : s.otp.keyLen = 0)
    (hovf : s.otp.keyOvf = false) (key : List Byte) : Started key s ((keyHex key).foldl State.after s) := by
  obtain ⟨r, hr⟩ := foldl_after_keyHex key s
  have hwindow : (pushAll s.keyMax.bytes key s.otp).window = s.otp.window := by rw [pushAll_frame]
  have hnow : (pushAll s.keyMax.bytes key s.otp).now = s.otp.now := by rw [pushAll_frame]
  rw [hr]
  exact ⟨rfl, hwindow, hnow, rfl, pushAll_keyLoaded hsize hlen hovf key⟩

/-- A call starts with CLEAR from every state, and without it where no key byte is loaded: KEY_OVF is then 0 (R31). -/
theorem started_keyStart {partialKey : Bool} {s : State} (h : partialKey = false → Spec.MayOmitClear s) (key : List Byte) :
    Started key s (keyStart partialKey key s) := by
  cases partialKey with
  | true =>
    have hnone := doClear_noKey s.keyMax.bytes s.otp
    obtain ⟨hmax, hwindow, hnow, hdrawn, hkey⟩ :=
      started_of_empty (s := s.after .clear) hnone.keyInv.size hnone.len hnone.ovf key
    exact ⟨hmax, hwindow, hnow, hdrawn, hkey⟩
  | false =>
    obtain ⟨hinv, hlen⟩ := h rfl
    have hpos := (KeyMax_bytes_bounds s.keyMax).1
    have hovf : s.otp.keyOvf = false := Bool.eq_false_iff.mpr fun hset => by
      have := hinv.flags.overflowFull hset
      omega
    exact started_of_empty hinv.key.size hlen hovf key

/-! ## What a call leaves -/

/-- The record on which the command of a HOTP call runs: the key and the operands of the call, the rest as before. -/
structure HotpReady (key : List Byte) (c : DWord) (d : Word) (s : State) (R : OtpState) : Prop where
  key : KeyLoaded s.keyMax.bytes key R
  counter : R.counter = c
  digits : R.digits = d
  window : R.window = s.otp.window
  now : R.now = s.otp.now

/-- A HOTP call is the HOTP command on its operands. -/
theorem exists_hotpReady {key : List Byte} {c : DWord} {d : Word} {partialKey : Bool} {order : List Instr} {s : State}
    (h : InAnyOrder order (hotpWrites key c d)) (hclear : partialKey = false → Spec.MayOmitClear s) :
    ∃ R, HotpReady key c d s R ∧
      ((callWith partialKey order .hotp).foldl State.after s).otp = doHotp s.keyMax.bytes R := by
  obtain ⟨hmax, hwindow, hnow, -, hfits, hlost⟩ := started_keyStart hclear key
  rw [hotpWrites_eq] at h
  rw [foldl_after_callWith h (fun _ => loadsOperand_of_mem_hotpLoads) (hotpLoads_commute c d), foldl_after_hotpLoads, ← hmax]
  refine ⟨_, ?_, rfl⟩
  exact ⟨⟨hfits, hlost⟩, rfl, rfl, hwindow, hnow⟩

/-- The record on which the command of a TOTP call runs: the key and the operands of the call. -/
structure TotpReady (key : List Byte) (d w : Word) (now : TimeSource) (s : State) (R : OtpState) : Prop where
  key : KeyLoaded s.keyMax.bytes key R
  digits : R.digits = d
  window : R.window = w
  now : R.now.toInt = Spec.timeOf now s

/-- A time that NOW can hold is the number its pattern denotes (R26). -/
theorem toInt_ofInt_of_fits {n : Int} (h : Spec.TimeFits (.fixed n)) : (BitVec.ofInt 64 n).toInt = n := by
  obtain ⟨hlo, hhi⟩ := h
  rw [BitVec.toInt_ofInt]
  exact Int.bmod_eq_of_le (by omega) (by omega)

/-- A TOTP call is the TOTP command on its operands. -/
theorem exists_totpReady {key : List Byte} {d w : Word} {now : TimeSource} {partialKey : Bool} {order : List Instr} {s : State}
    (h : InAnyOrder order (totpWrites key d w now)) (hclear : partialKey = false → Spec.MayOmitClear s)
    (hfit : Spec.TimeFits now) : ∃ R, TotpReady key d w now s R ∧
      ((callWith partialKey order .totp).foldl State.after s).otp = doTotp s.keyMax.bytes R := by
  obtain ⟨hmax, -, -, hdrawn, hfits, hlost⟩ := started_keyStart hclear key
  rw [totpWrites_eq] at h
  rw [foldl_after_callWith h (fun _ => loadsOperand_of_mem_totpLoads) (totpLoads_commute d w now)]
  cases now with
  | fixed n =>
    rw [foldl_after_totpLoads_fixed, ← hmax]
    refine ⟨_, ?_, rfl⟩
    exact ⟨⟨hfits, hlost⟩, rfl, rfl, toInt_ofInt_of_fits hfit⟩
  | current =>
    rw [foldl_after_totpLoads_current, ← hmax]
    refine ⟨_, ?_, rfl⟩
    exact ⟨⟨hfits, hlost⟩, rfl, rfl, congrArg BitVec.toInt hdrawn⟩

end Sys2Proof.Machine

/-! PROOFS. The library calls (spec/30_encoding.md R103, spec/60_exceptions.md R249): the record they leave, and what the host reads. -/

namespace Sys2Proof.Machine

/-! ## The call up to its command -/

/-- The transactions of a call up to its command are rows of the table and return nothing. -/
theorem silent_of_mem_callWith {order loads : List Instr} {key : List Byte} {partialKey : Bool} {command : Instr}
    (h : InAnyOrder order (keyHex key ++ loads)) (hloads : ∀ i ∈ loads, LoadsOperand i) (hcommand : Silent command) :
    ∀ i ∈ callWith partialKey order command, Silent i := by
  intro i hi
  have hclear : ∀ j ∈ (if partialKey then [Instr.clear] else []), Silent j := by
    cases partialKey <;> simp
    exact ⟨rfl, fun _ => rfl⟩
  rw [callWith, List.mem_append, List.mem_append, List.mem_singleton] at hi
  rcases hi with (hi | hi) | rfl
  · exact hclear i hi
  · rcases List.mem_append.mp (h.1.mem_iff.mp hi) with hi | hi
    · exact silent_of_mem_keyHex hi
    · exact (hloads i hi).silent
  · exact hcommand

theorem silent_hotpCall {order : List Instr} {key : List Byte} {c : DWord} {d : Word} (h : InAnyOrder order (hotpWrites key c d))
    (partialKey : Bool) : ∀ i ∈ callWith partialKey order .hotp, Silent i :=
  silent_of_mem_callWith (hotpWrites_eq key c d ▸ h) (fun _ => loadsOperand_of_mem_hotpLoads) ⟨rfl, fun _ => rfl⟩

theorem silent_totpCall {order : List Instr} {key : List Byte} {d w : Word} {now : TimeSource}
    (h : InAnyOrder order (totpWrites key d w now)) (partialKey : Bool) : ∀ i ∈ callWith partialKey order .totp, Silent i :=
  silent_of_mem_callWith (totpWrites_eq key d w now ▸ h) (fun _ => loadsOperand_of_mem_totpLoads) ⟨rfl, fun _ => rfl⟩

/-- With a key that fits and digits in range the HOTP of a call passes. -/
theorem HotpReady.passes {key : List Byte} {c : DWord} {d : Word} {s : State} {R : OtpState} (h : HotpReady key c d s R)
    (hkey : key.length ≤ s.keyMax.bytes) (h1 : 1 ≤ d.toNat) (h10 : d.toNat ≤ 10) : Spec.HotpPasses R :=
  ⟨h.digits ▸ h1, h.digits ▸ h10, (h.key.fits hkey).2⟩

/-- With a key that fits and its operands in range the TOTP of a call passes. -/
theorem TotpReady.passes {key : List Byte} {d w : Word} {now : TimeSource} {s : State} {R : OtpState}
    (h : TotpReady key d w now s R) (hkey : key.length ≤ s.keyMax.bytes) (h1 : 1 ≤ d.toNat) (h10 : d.toNat ≤ 10)
    (hw : w ≠ 0#32) (hnow : 0 ≤ Spec.timeOf now s) : Spec.TotpPasses R :=
  ⟨h.digits ▸ h1, h.digits ▸ h10, h.window ▸ hw, h.now ▸ hnow, (h.key.fits hkey).2⟩

/-- The counter of a call is the quotient of its time by its window. -/
theorem TotpReady.timeStep_eq {key : List Byte} {d w : Word} {now : TimeSource} {s : State} {R : OtpState}
    (h : TotpReady key d w now s R) (hnow : 0 ≤ Spec.timeOf now s) :
    (Spec.timeStep R).toNat = (Spec.timeOf now s).toNat / w.toNat := by
  have hmsb := msb_of_toInt_nonneg (h.now ▸ hnow : 0 ≤ R.now.toInt)
  rw [timeStep_toNat hmsb, tscale, ← BitVec.toNat_toInt_of_msb _ hmsb, h.now, h.window]

/-- Settles O45: the run (log 2) ends with the HOTP command on the operands of the call, which passes. -/
theorem hotpCallComputesTheFunction : Obligations.HotpCallComputesTheFunction := by
  intro s key c d partialKey order rest horder hclear hlen h1 h10
  obtain ⟨R, hready, hotp⟩ := exists_hotpReady horder hclear
  have hrun := run_hostEvents (fun i hi => (silent_hotpCall horder partialKey i hi).wellFormed) s rest
  rw [doHotp_of_passes _ (hready.passes hlen h1 h10)] at hotp
  obtain ⟨⟨hfits, -⟩, rfl, rfl, hwindow, hnow⟩ := hready
  obtain ⟨rfl, -⟩ := hfits hlen
  refine ⟨_, hrun, rfl, ?_⟩
  rw [hotp]
  exact ⟨rfl, rfl, rfl, rfl, rfl, rfl, rfl, rfl, rfl, rfl, rfl, hwindow, hnow⟩

/-- Settles O46: the run (log 2) ends with the TOTP command on the operands of the call, the time its own or the draw (log 3). -/
theorem totpCallComputesTheFunction : Obligations.TotpCallComputesTheFunction := by
  intro s key d w now partialKey order rest horder hclear hlen h1 h10 hw hfit hnow
  obtain ⟨R, hready, htotp⟩ := exists_totpReady horder hclear hfit
  have hrun := run_hostEvents (fun i hi => (silent_totpCall horder partialKey i hi).wellFormed) s rest
  have hcounter := hready.timeStep_eq hnow
  rw [doTotp_of_passes _ (hready.passes hlen h1 h10 hw hnow)] at htotp
  obtain ⟨⟨hfits, -⟩, rfl, rfl, htime⟩ := hready
  obtain ⟨rfl, -⟩ := hfits hlen
  refine ⟨_, hrun, rfl, ?_⟩
  rw [htotp]
  exact ⟨rfl, rfl, rfl, htime, hcounter, rfl, rfl, rfl, rfl, rfl, rfl, rfl, rfl⟩

/-! ## The reads of the result -/

/-- Issuing reads returns the words of the read table (R120) and leaves the record. -/
theorem issue_readRows (idxs : List Idx) (s : State) : ∃ t, t.otp = s.otp ∧
    issue (idxs.map readRow) s = .next (t, idxs.map fun idx => Spec.regRead idx s.otp) := by
  induction idxs generalizing s with
  | nil => exact ⟨s, rfl, rfl⟩
  | cons idx idxs ih =>
    obtain ⟨t, hotp, ht⟩ := ih (Spec.answered s (Spec.regRead idx s.otp))
    refine ⟨t, hotp, ?_⟩
    rw [List.map_cons, issue_cons (decodeWord_encode (wellFormed_readRow idx)) (exec_readRow idx s), ht]
    rfl

/-- The slots of CODE0 to CODE<d-1> (R62). -/
def codeSlots (d : Nat) : List Idx := (List.range d).map fun i => BitVec.ofNat 6 (16 + i)

/-- The reads after OK are those of CODE_LEN and of the first slots of the code. -/
theorem resultReads_eq {d : Nat} (hd : d ≤ 10) : resultReads d = (10#6 :: codeSlots d).map readRow := by
  interval_cases d <;> rfl

/-- The slots of the code read its characters (R131). -/
theorem regRead_codeSlot (i : Fin 10) (S : OtpState) :
    Spec.regRead (BitVec.ofNat 6 (16 + i.val)) S = S.code[i].setWidth 32 := by
  fin_cases i <;> rfl

/-- The slots of a stored code read its string. -/
theorem map_regRead_codeSlots {S : OtpState} {code d : Nat} (hcode : S.code = Spec.codeBuffer code d) (hd : d ≤ 10) :
    (codeSlots d).map (fun idx => Spec.regRead idx S) = (formatCode code d).map fun ch => ch.setWidth 32 := by
  rw [codeSlots, formatCode, List.map_map, List.map_map]
  refine List.map_congr_left fun i hi => ?_
  have hlt := List.mem_range.mp hi
  have hchar : S.code[(⟨i, by omega⟩ : Fin 10)] = chr (code / 10 ^ (d - 1 - i) % 10) := by
    rw [hcode, Spec.codeBuffer]
    simp [hlt, chr]
  exact (regRead_codeSlot ⟨i, by omega⟩ S).trans (congrArg _ hchar)

/-- Reading STATUS returns its word, whose bit 0 is OK (R33). -/
theorem issue_rdStatus (u : State) : ∃ t, t.otp = u.otp ∧ issue [.rdStatus] u = .next (t, [statusWord u.otp]) := by
  obtain ⟨t, hotp, ht⟩ := issue_readRows [1#6] u
  exact ⟨t, hotp, by rw [statusWord_eq_ofNat]; exact ht⟩

/-- After a success the host reads the code's length and its string. -/
theorem readResult_of_ok {u : State} {code d : Nat} (hok : u.otp.ok = true) (hlen : u.otp.codeLen = d)
    (hcode : u.otp.code = Spec.codeBuffer code d) (hd : d ≤ 10) :
    ∃ t, readResult d u = .next (t, Spec.codeRead code d) := by
  obtain ⟨t, hotp, ht⟩ := issue_rdStatus u
  obtain ⟨t', -, ht'⟩ := issue_readRows (10#6 :: codeSlots d) t
  have hbit : (statusWord u.otp).getLsbD 0 = true := (statusWord_fields u.otp).1.trans hok
  rw [hotp, ← resultReads_eq hd, List.map_cons, map_regRead_codeSlots hcode hd] at ht'
  refine ⟨t', ?_⟩
  rw [readResult, ht, andThen_next, List.headD_cons, if_pos hbit, ht', andThen_next, Spec.codeRead, ← hlen]
  rfl

/-- After a failure the host reads its STATUS. -/
theorem readResult_of_failCall {u : State} {k : Nat} {E : Failure} {S : OtpState} {x : Word} (h : u.otp = failCall k E S)
    (hx : statusWord (failCall k E S) = x) (d : Nat) : ∃ t, readResult d u = .next (t, .failure x) := by
  obtain ⟨t, -, ht⟩ := issue_rdStatus u
  have hbit : (statusWord u.otp).getLsbD 0 = false := (statusWord_fields u.otp).1.trans (by rw [h]; rfl)
  refine ⟨t, ?_⟩
  rw [readResult, ht, andThen_next, List.headD_cons, if_neg (by rw [hbit]; decide), h, hx]

/-! ## The library calls whole -/

/-- A library call reads the result in the state its transactions leave. -/
theorem libraryCall_of_silent {call : List Instr} (h : ∀ i ∈ call, Silent i) (d : Nat) (s : State) :
    libraryCall call d s = readResult d (call.foldl State.after s) := by
  rw [libraryCall, issue_of_silent h, andThen_next]

/-- In the order R103 lists the writes are in one of their orders. -/
theorem inAnyOrder_self (writes : List Instr) : InAnyOrder writes writes := ⟨.refl _, rfl⟩

/-- `HOTP(key, counter, digits)` reads the result of the HOTP command on its operands. -/
theorem exists_hotpLibrary_eq (key : List Byte) (c : DWord) (d : Word) {partialKey : Bool} {s : State}
    (hclear : partialKey = false → Spec.MayOmitClear s) : ∃ R u, HotpReady key c d s R ∧ u.otp = doHotp s.keyMax.bytes R ∧
      hotpLibrary partialKey key c d s = readResult d.toNat u := by
  have horder := inAnyOrder_self (hotpWrites key c d)
  obtain ⟨R, hready, hotp⟩ := exists_hotpReady horder hclear
  exact ⟨R, _, hready, hotp, libraryCall_of_silent (silent_hotpCall horder partialKey) _ _⟩

/-- `TOTP(key, digits, window_seconds, now)` reads the result of the TOTP command on its operands. -/
theorem exists_totpLibrary_eq (key : List Byte) (d w : Word) {now : TimeSource} {partialKey : Bool} {s : State}
    (hclear : partialKey = false → Spec.MayOmitClear s) (hfit : Spec.TimeFits now) :
    ∃ R u, TotpReady key d w now s R ∧ u.otp = doTotp s.keyMax.bytes R ∧
      totpLibrary partialKey key d w now s = readResult d.toNat u := by
  have horder := inAnyOrder_self (totpWrites key d w now)
  obtain ⟨R, hready, htotp⟩ := exists_totpReady horder hclear hfit
  exact ⟨R, _, hready, htotp, libraryCall_of_silent (silent_totpCall horder partialKey) _ _⟩

/-- The HOTP call returns the code, or the failure that applies. -/
theorem hotpLibrary_result (key : List Byte) (c : DWord) (d : Word) {partialKey : Bool} {s : State}
    (hclear : partialKey = false → Spec.MayOmitClear s) :
    (1 ≤ d.toNat → d.toNat ≤ 10 → key.length ≤ s.keyMax.bytes →
      ∃ t, hotpLibrary partialKey key c d s = .next (t, Spec.codeRead (Spec.codeValue key c d.toNat) d.toNat)) ∧
    (d = 0#32 ∨ 10 < d.toNat → ∃ t, hotpLibrary partialKey key c d s = .next (t, .failure 0x012#32)) ∧
    (1 ≤ d.toNat → d.toNat ≤ 10 → s.keyMax.bytes < key.length →
      ∃ t, hotpLibrary partialKey key c d s = .next (t, .failure 0x042#32)) := by
  obtain ⟨R, u, hready, hotp, hlib⟩ := exists_hotpLibrary_eq key c d hclear
  rw [hlib]
  refine ⟨fun h1 h10 hkey => ?_, fun hdigits => ?_, fun h1 h10 hkey => ?_⟩
  · rw [doHotp_of_passes _ (hready.passes hkey h1 h10)] at hotp
    obtain ⟨⟨hfits, -⟩, rfl, rfl, -, -⟩ := hready
    obtain ⟨rfl, -⟩ := hfits hkey
    exact readResult_of_ok (by rw [hotp]; rfl) (by rw [hotp]; rfl) (by rw [hotp]; rfl) h10
  · rw [← hready.digits] at hdigits
    exact readResult_of_failCall (hotp.trans (doHotp_of_fails _ (validateHotp_of_digits hdigits)))
      (statusWord_failCall_invalidArgument _ _) _
  · rw [← hready.digits] at h1 h10
    have hovf := hready.key.lost hkey
    exact readResult_of_failCall (hotp.trans (doHotp_of_fails _ (validateHotp_of_keyOvf h1 h10 hovf)))
      (statusWord_failCall_keyTooLong _ _) _

/-- The TOTP call returns the code of its time, or the failure that applies. -/
theorem totpLibrary_result (key : List Byte) (d w : Word) {now : TimeSource} {partialKey : Bool} {s : State}
    (hclear : partialKey = false → Spec.MayOmitClear s) (hfit : Spec.TimeFits now) :
    (1 ≤ d.toNat → d.toNat ≤ 10 → w ≠ 0#32 → 0 ≤ Spec.timeOf now s → key.length ≤ s.keyMax.bytes →
      ∃ t, totpLibrary partialKey key d w now s = .next (t, Spec.codeRead
        (Spec.codeValue key (BitVec.ofNat 64 ((Spec.timeOf now s).toNat / w.toNat)) d.toNat) d.toNat)) ∧
    (d = 0#32 ∨ 10 < d.toNat ∨ w = 0#32 ∨ Spec.timeOf now s < 0 →
      ∃ t, totpLibrary partialKey key d w now s = .next (t, .failure 0x012#32)) ∧
    (1 ≤ d.toNat → d.toNat ≤ 10 → w ≠ 0#32 → 0 ≤ Spec.timeOf now s → s.keyMax.bytes < key.length →
      ∃ t, totpLibrary partialKey key d w now s = .next (t, .failure 0x042#32)) := by
  obtain ⟨R, u, hready, htotp, hlib⟩ := exists_totpLibrary_eq key d w hclear hfit
  have hmsb : R.now.msb = decide (Spec.timeOf now s < 0) := by rw [← hready.now, BitVec.msb_eq_toInt]
  rw [hlib]
  refine ⟨fun h1 h10 hw hnow hkey => ?_, fun hinvalid => ?_, fun h1 h10 hw hnow hkey => ?_⟩
  · rw [doTotp_of_passes _ (hready.passes hkey h1 h10 hw hnow)] at htotp
    have hstep : BitVec.ofNat 64 ((Spec.timeOf now s).toNat / w.toNat) = Spec.timeStep R := by
      rw [← hready.timeStep_eq hnow, BitVec.ofNat_toNat, BitVec.setWidth_eq]
    obtain ⟨⟨hfits, -⟩, rfl, rfl, -⟩ := hready
    obtain ⟨rfl, -⟩ := hfits hkey
    rw [hstep]
    exact readResult_of_ok (by rw [htotp]; rfl) (by rw [htotp]; rfl) (by rw [htotp]; rfl) h10
  · rw [← hready.digits, ← hready.window, ← decide_eq_true_iff (p := Spec.timeOf now s < 0), ← hmsb] at hinvalid
    exact readResult_of_failCall (htotp.trans (doTotp_of_fails _ (validateTotp_of_invalid hinvalid)))
      (statusWord_failCall_invalidArgument _ _) _
  · have hovf := hready.key.lost hkey
    have hn := msb_of_toInt_nonneg (hready.now ▸ hnow : 0 ≤ R.now.toInt)
    rw [← hready.digits] at h1 h10
    rw [← hready.window] at hw
    exact readResult_of_failCall (htotp.trans (doTotp_of_fails _ (validateTotp_of_keyOvf h1 h10 hw hn hovf)))
      (statusWord_failCall_keyTooLong _ _) _

/-- Settles O47: both calls, each with its success and its two failures (log 2, log 3). -/
theorem libraryCallsReturnTheString : Obligations.LibraryCallsReturnTheString :=
  ⟨fun _ key c d _ hclear => hotpLibrary_result key c d hclear,
    fun _ key d w _ _ hclear hfit => totpLibrary_result key d w hclear hfit⟩

end Sys2Proof.Machine
